-- ==== Sys2Proof/Word.lean ====
section
/-! DEFINITION. The widths of the machine (spec/00_scope.md R6, R7; decision D2): a bus data byte and a
CPU register hold 8 bits, a bus address and the program counter hold 16. -/

namespace Sys2Proof

/-- A byte: `XLEN` = 8 bits. -/
abbrev Byte := BitVec 8

/-- A bus address or a value of PC: `ALEN` = 16 bits. -/
abbrev Addr := BitVec 16

end Sys2Proof
end

