-- ==== Sys2Proof/Syntax.lean ====
section
/-! DEFINITION. The instructions: one constructor per row of spec/opcode_table.json (151), named by mnemonic and
addressing mode, with the operand the format gives it (spec/30_encoding.md R102, R103): `d8` a byte, `rel` the
displacement byte of a branch, `a16` a word. And the names the opcode table uses: modes, branch conditions, timing. -/

namespace Sys2Proof

/-- The thirteen addressing modes (spec/30_encoding.md R104 to R116). -/
inductive Mode where
  | imp
  | acc
  | imm
  | zp
  | zpx
  | zpy
  | abs
  | absx
  | absy
  | ind
  | indx
  | indy
  | rel
deriving DecidableEq, Repr

/-- The condition of a branch (spec/44_control_flow.md R215 to R222). -/
inductive BranchCond where
  | cc
  | cs
  | eq
  | ne
  | mi
  | pl
  | vc
  | vs
deriving DecidableEq, Repr

/-- What the cycle count of a row depends on besides its base (spec/70_reset_and_hazards.md R360): nothing; the
crossing of a page by the indexed address; a branch being taken. -/
inductive Timing where
  | fixed
  | pageCross
  | branch (cond : BranchCond)
deriving DecidableEq, Repr

/-- One constructor per row of the opcode table (R120). -/
inductive Instr where
  | ldaImm (d8 : Byte)
  | ldaZp (d8 : Byte)
  | ldaZpx (d8 : Byte)
  | ldaAbs (a16 : Addr)
  | ldaAbsx (a16 : Addr)
  | ldaAbsy (a16 : Addr)
  | ldaIndx (d8 : Byte)
  | ldaIndy (d8 : Byte)
  | ldxImm (d8 : Byte)
  | ldxZp (d8 : Byte)
  | ldxZpy (d8 : Byte)
  | ldxAbs (a16 : Addr)
  | ldxAbsy (a16 : Addr)
  | ldyImm (d8 : Byte)
  | ldyZp (d8 : Byte)
  | ldyZpx (d8 : Byte)
  | ldyAbs (a16 : Addr)
  | ldyAbsx (a16 : Addr)
  | staZp (d8 : Byte)
  | staZpx (d8 : Byte)
  | staAbs (a16 : Addr)
  | staAbsx (a16 : Addr)
  | staAbsy (a16 : Addr)
  | staIndx (d8 : Byte)
  | staIndy (d8 : Byte)
  | stxZp (d8 : Byte)
  | stxZpy (d8 : Byte)
  | stxAbs (a16 : Addr)
  | styZp (d8 : Byte)
  | styZpx (d8 : Byte)
  | styAbs (a16 : Addr)
  | tax
  | tay
  | txa
  | tya
  | tsx
  | txs
  | pha
  | php
  | pla
  | plp
  | adcImm (d8 : Byte)
  | adcZp (d8 : Byte)
  | adcZpx (d8 : Byte)
  | adcAbs (a16 : Addr)
  | adcAbsx (a16 : Addr)
  | adcAbsy (a16 : Addr)
  | adcIndx (d8 : Byte)
  | adcIndy (d8 : Byte)
  | sbcImm (d8 : Byte)
  | sbcZp (d8 : Byte)
  | sbcZpx (d8 : Byte)
  | sbcAbs (a16 : Addr)
  | sbcAbsx (a16 : Addr)
  | sbcAbsy (a16 : Addr)
  | sbcIndx (d8 : Byte)
  | sbcIndy (d8 : Byte)
  | andImm (d8 : Byte)
  | andZp (d8 : Byte)
  | andZpx (d8 : Byte)
  | andAbs (a16 : Addr)
  | andAbsx (a16 : Addr)
  | andAbsy (a16 : Addr)
  | andIndx (d8 : Byte)
  | andIndy (d8 : Byte)
  | oraImm (d8 : Byte)
  | oraZp (d8 : Byte)
  | oraZpx (d8 : Byte)
  | oraAbs (a16 : Addr)
  | oraAbsx (a16 : Addr)
  | oraAbsy (a16 : Addr)
  | oraIndx (d8 : Byte)
  | oraIndy (d8 : Byte)
  | eorImm (d8 : Byte)
  | eorZp (d8 : Byte)
  | eorZpx (d8 : Byte)
  | eorAbs (a16 : Addr)
  | eorAbsx (a16 : Addr)
  | eorAbsy (a16 : Addr)
  | eorIndx (d8 : Byte)
  | eorIndy (d8 : Byte)
  | cmpImm (d8 : Byte)
  | cmpZp (d8 : Byte)
  | cmpZpx (d8 : Byte)
  | cmpAbs (a16 : Addr)
  | cmpAbsx (a16 : Addr)
  | cmpAbsy (a16 : Addr)
  | cmpIndx (d8 : Byte)
  | cmpIndy (d8 : Byte)
  | cpxImm (d8 : Byte)
  | cpxZp (d8 : Byte)
  | cpxAbs (a16 : Addr)
  | cpyImm (d8 : Byte)
  | cpyZp (d8 : Byte)
  | cpyAbs (a16 : Addr)
  | bitZp (d8 : Byte)
  | bitAbs (a16 : Addr)
  | incZp (d8 : Byte)
  | incZpx (d8 : Byte)
  | incAbs (a16 : Addr)
  | incAbsx (a16 : Addr)
  | decZp (d8 : Byte)
  | decZpx (d8 : Byte)
  | decAbs (a16 : Addr)
  | decAbsx (a16 : Addr)
  | inx
  | iny
  | dex
  | dey
  | aslAcc
  | aslZp (d8 : Byte)
  | aslZpx (d8 : Byte)
  | aslAbs (a16 : Addr)
  | aslAbsx (a16 : Addr)
  | lsrAcc
  | lsrZp (d8 : Byte)
  | lsrZpx (d8 : Byte)
  | lsrAbs (a16 : Addr)
  | lsrAbsx (a16 : Addr)
  | rolAcc
  | rolZp (d8 : Byte)
  | rolZpx (d8 : Byte)
  | rolAbs (a16 : Addr)
  | rolAbsx (a16 : Addr)
  | rorAcc
  | rorZp (d8 : Byte)
  | rorZpx (d8 : Byte)
  | rorAbs (a16 : Addr)
  | rorAbsx (a16 : Addr)
  | jmpAbs (a16 : Addr)
  | jmpInd (a16 : Addr)
  | jsr (a16 : Addr)
  | rts
  | bcc (rel : Byte)
  | bcs (rel : Byte)
  | beq (rel : Byte)
  | bne (rel : Byte)
  | bmi (rel : Byte)
  | bpl (rel : Byte)
  | bvc (rel : Byte)
  | bvs (rel : Byte)
  | clc
  | sec
  | cli
  | sei
  | cld
  | sed
  | clv
  | nop
  | brk
  | rti
deriving DecidableEq, Repr

end Sys2Proof
end

