-- ==== Sys2Proof/Decode.lean ====
section
/-! DEFINITION. The decoder and the encoder, both read from the opcode map of spec/30_encoding.md R120 and the
formats of R102, R103. `rowsOf h` is the map's row of high digit `h`, one `OpRow` per defined cell. -/

namespace Sys2Proof

/-! ### Byte order (spec/20_memory.md R70; spec/00_scope.md R7, R8) -/

/-- `hi ++ lo`, the word `hi * 256 + lo`. -/
def wordOf (hi lo : Byte) : Addr := hi ++ lo

/-- `lo(w) = w mod 256`. -/
def loByte (w : Addr) : Byte := w.setWidth 8

/-- `hi(w) = w div 256`. -/
def hiByte (w : Addr) : Byte := (w >>> 8).setWidth 8

/-- `zext_16(b)`. -/
def zext (b : Byte) : Addr := b.setWidth 16

/-- `sext_8(b)` as a word modulo 65536. -/
def sext (b : Byte) : Addr := b.signExtend 16

/-! ### The opcode map -/

/-- The length of an instruction, by its mode (R102, R121). -/
def Mode.length : Mode → Nat
  | .imp | .acc => 1
  | .imm | .zp | .zpx | .zpy | .indx | .indy | .rel => 2
  | .abs | .absx | .absy | .ind => 3

/-- One defined cell of the opcode map: the opcode byte, what the table says of it, and the instruction it makes
of the two bytes that follow (a mode that has no such byte ignores it). -/
structure OpRow where
  opcode : Byte
  mnemonic : String
  mode : Mode
  cycles : Nat
  timing : Timing
  make : Byte → Byte → Instr

/-- The row of the opcode map with the given high digit (R120). -/
def rowsOf : Nat → List OpRow
  | 0x0 =>
    [ ⟨0x00, "BRK", .imp, 7, .fixed, fun _ _ => .brk⟩,
      ⟨0x01, "ORA", .indx, 6, .fixed, fun b1 _ => .oraIndx b1⟩,
      ⟨0x05, "ORA", .zp, 3, .fixed, fun b1 _ => .oraZp b1⟩,
      ⟨0x06, "ASL", .zp, 5, .fixed, fun b1 _ => .aslZp b1⟩,
      ⟨0x08, "PHP", .imp, 3, .fixed, fun _ _ => .php⟩,
      ⟨0x09, "ORA", .imm, 2, .fixed, fun b1 _ => .oraImm b1⟩,
      ⟨0x0A, "ASL", .acc, 2, .fixed, fun _ _ => .aslAcc⟩,
      ⟨0x0D, "ORA", .abs, 4, .fixed, fun b1 b2 => .oraAbs (wordOf b2 b1)⟩,
      ⟨0x0E, "ASL", .abs, 6, .fixed, fun b1 b2 => .aslAbs (wordOf b2 b1)⟩ ]
  | 0x1 =>
    [ ⟨0x10, "BPL", .rel, 2, .branch .pl, fun b1 _ => .bpl b1⟩,
      ⟨0x11, "ORA", .indy, 5, .pageCross, fun b1 _ => .oraIndy b1⟩,
      ⟨0x15, "ORA", .zpx, 4, .fixed, fun b1 _ => .oraZpx b1⟩,
      ⟨0x16, "ASL", .zpx, 6, .fixed, fun b1 _ => .aslZpx b1⟩,
      ⟨0x18, "CLC", .imp, 2, .fixed, fun _ _ => .clc⟩,
      ⟨0x19, "ORA", .absy, 4, .pageCross, fun b1 b2 => .oraAbsy (wordOf b2 b1)⟩,
      ⟨0x1D, "ORA", .absx, 4, .pageCross, fun b1 b2 => .oraAbsx (wordOf b2 b1)⟩,
      ⟨0x1E, "ASL", .absx, 7, .fixed, fun b1 b2 => .aslAbsx (wordOf b2 b1)⟩ ]
  | 0x2 =>
    [ ⟨0x20, "JSR", .abs, 6, .fixed, fun b1 b2 => .jsr (wordOf b2 b1)⟩,
      ⟨0x21, "AND", .indx, 6, .fixed, fun b1 _ => .andIndx b1⟩,
      ⟨0x24, "BIT", .zp, 3, .fixed, fun b1 _ => .bitZp b1⟩,
      ⟨0x25, "AND", .zp, 3, .fixed, fun b1 _ => .andZp b1⟩,
      ⟨0x26, "ROL", .zp, 5, .fixed, fun b1 _ => .rolZp b1⟩,
      ⟨0x28, "PLP", .imp, 4, .fixed, fun _ _ => .plp⟩,
      ⟨0x29, "AND", .imm, 2, .fixed, fun b1 _ => .andImm b1⟩,
      ⟨0x2A, "ROL", .acc, 2, .fixed, fun _ _ => .rolAcc⟩,
      ⟨0x2C, "BIT", .abs, 4, .fixed, fun b1 b2 => .bitAbs (wordOf b2 b1)⟩,
      ⟨0x2D, "AND", .abs, 4, .fixed, fun b1 b2 => .andAbs (wordOf b2 b1)⟩,
      ⟨0x2E, "ROL", .abs, 6, .fixed, fun b1 b2 => .rolAbs (wordOf b2 b1)⟩ ]
  | 0x3 =>
    [ ⟨0x30, "BMI", .rel, 2, .branch .mi, fun b1 _ => .bmi b1⟩,
      ⟨0x31, "AND", .indy, 5, .pageCross, fun b1 _ => .andIndy b1⟩,
      ⟨0x35, "AND", .zpx, 4, .fixed, fun b1 _ => .andZpx b1⟩,
      ⟨0x36, "ROL", .zpx, 6, .fixed, fun b1 _ => .rolZpx b1⟩,
      ⟨0x38, "SEC", .imp, 2, .fixed, fun _ _ => .sec⟩,
      ⟨0x39, "AND", .absy, 4, .pageCross, fun b1 b2 => .andAbsy (wordOf b2 b1)⟩,
      ⟨0x3D, "AND", .absx, 4, .pageCross, fun b1 b2 => .andAbsx (wordOf b2 b1)⟩,
      ⟨0x3E, "ROL", .absx, 7, .fixed, fun b1 b2 => .rolAbsx (wordOf b2 b1)⟩ ]
  | 0x4 =>
    [ ⟨0x40, "RTI", .imp, 6, .fixed, fun _ _ => .rti⟩,
      ⟨0x41, "EOR", .indx, 6, .fixed, fun b1 _ => .eorIndx b1⟩,
      ⟨0x45, "EOR", .zp, 3, .fixed, fun b1 _ => .eorZp b1⟩,
      ⟨0x46, "LSR", .zp, 5, .fixed, fun b1 _ => .lsrZp b1⟩,
      ⟨0x48, "PHA", .imp, 3, .fixed, fun _ _ => .pha⟩,
      ⟨0x49, "EOR", .imm, 2, .fixed, fun b1 _ => .eorImm b1⟩,
      ⟨0x4A, "LSR", .acc, 2, .fixed, fun _ _ => .lsrAcc⟩,
      ⟨0x4C, "JMP", .abs, 3, .fixed, fun b1 b2 => .jmpAbs (wordOf b2 b1)⟩,
      ⟨0x4D, "EOR", .abs, 4, .fixed, fun b1 b2 => .eorAbs (wordOf b2 b1)⟩,
      ⟨0x4E, "LSR", .abs, 6, .fixed, fun b1 b2 => .lsrAbs (wordOf b2 b1)⟩ ]
  | 0x5 =>
    [ ⟨0x50, "BVC", .rel, 2, .branch .vc, fun b1 _ => .bvc b1⟩,
      ⟨0x51, "EOR", .indy, 5, .pageCross, fun b1 _ => .eorIndy b1⟩,
      ⟨0x55, "EOR", .zpx, 4, .fixed, fun b1 _ => .eorZpx b1⟩,
      ⟨0x56, "LSR", .zpx, 6, .fixed, fun b1 _ => .lsrZpx b1⟩,
      ⟨0x58, "CLI", .imp, 2, .fixed, fun _ _ => .cli⟩,
      ⟨0x59, "EOR", .absy, 4, .pageCross, fun b1 b2 => .eorAbsy (wordOf b2 b1)⟩,
      ⟨0x5D, "EOR", .absx, 4, .pageCross, fun b1 b2 => .eorAbsx (wordOf b2 b1)⟩,
      ⟨0x5E, "LSR", .absx, 7, .fixed, fun b1 b2 => .lsrAbsx (wordOf b2 b1)⟩ ]
  | 0x6 =>
    [ ⟨0x60, "RTS", .imp, 6, .fixed, fun _ _ => .rts⟩,
      ⟨0x61, "ADC", .indx, 6, .fixed, fun b1 _ => .adcIndx b1⟩,
      ⟨0x65, "ADC", .zp, 3, .fixed, fun b1 _ => .adcZp b1⟩,
      ⟨0x66, "ROR", .zp, 5, .fixed, fun b1 _ => .rorZp b1⟩,
      ⟨0x68, "PLA", .imp, 4, .fixed, fun _ _ => .pla⟩,
      ⟨0x69, "ADC", .imm, 2, .fixed, fun b1 _ => .adcImm b1⟩,
      ⟨0x6A, "ROR", .acc, 2, .fixed, fun _ _ => .rorAcc⟩,
      ⟨0x6C, "JMP", .ind, 5, .fixed, fun b1 b2 => .jmpInd (wordOf b2 b1)⟩,
      ⟨0x6D, "ADC", .abs, 4, .fixed, fun b1 b2 => .adcAbs (wordOf b2 b1)⟩,
      ⟨0x6E, "ROR", .abs, 6, .fixed, fun b1 b2 => .rorAbs (wordOf b2 b1)⟩ ]
  | 0x7 =>
    [ ⟨0x70, "BVS", .rel, 2, .branch .vs, fun b1 _ => .bvs b1⟩,
      ⟨0x71, "ADC", .indy, 5, .pageCross, fun b1 _ => .adcIndy b1⟩,
      ⟨0x75, "ADC", .zpx, 4, .fixed, fun b1 _ => .adcZpx b1⟩,
      ⟨0x76, "ROR", .zpx, 6, .fixed, fun b1 _ => .rorZpx b1⟩,
      ⟨0x78, "SEI", .imp, 2, .fixed, fun _ _ => .sei⟩,
      ⟨0x79, "ADC", .absy, 4, .pageCross, fun b1 b2 => .adcAbsy (wordOf b2 b1)⟩,
      ⟨0x7D, "ADC", .absx, 4, .pageCross, fun b1 b2 => .adcAbsx (wordOf b2 b1)⟩,
      ⟨0x7E, "ROR", .absx, 7, .fixed, fun b1 b2 => .rorAbsx (wordOf b2 b1)⟩ ]
  | 0x8 =>
    [ ⟨0x81, "STA", .indx, 6, .fixed, fun b1 _ => .staIndx b1⟩,
      ⟨0x84, "STY", .zp, 3, .fixed, fun b1 _ => .styZp b1⟩,
      ⟨0x85, "STA", .zp, 3, .fixed, fun b1 _ => .staZp b1⟩,
      ⟨0x86, "STX", .zp, 3, .fixed, fun b1 _ => .stxZp b1⟩,
      ⟨0x88, "DEY", .imp, 2, .fixed, fun _ _ => .dey⟩,
      ⟨0x8A, "TXA", .imp, 2, .fixed, fun _ _ => .txa⟩,
      ⟨0x8C, "STY", .abs, 4, .fixed, fun b1 b2 => .styAbs (wordOf b2 b1)⟩,
      ⟨0x8D, "STA", .abs, 4, .fixed, fun b1 b2 => .staAbs (wordOf b2 b1)⟩,
      ⟨0x8E, "STX", .abs, 4, .fixed, fun b1 b2 => .stxAbs (wordOf b2 b1)⟩ ]
  | 0x9 =>
    [ ⟨0x90, "BCC", .rel, 2, .branch .cc, fun b1 _ => .bcc b1⟩,
      ⟨0x91, "STA", .indy, 6, .fixed, fun b1 _ => .staIndy b1⟩,
      ⟨0x94, "STY", .zpx, 4, .fixed, fun b1 _ => .styZpx b1⟩,
      ⟨0x95, "STA", .zpx, 4, .fixed, fun b1 _ => .staZpx b1⟩,
      ⟨0x96, "STX", .zpy, 4, .fixed, fun b1 _ => .stxZpy b1⟩,
      ⟨0x98, "TYA", .imp, 2, .fixed, fun _ _ => .tya⟩,
      ⟨0x99, "STA", .absy, 5, .fixed, fun b1 b2 => .staAbsy (wordOf b2 b1)⟩,
      ⟨0x9A, "TXS", .imp, 2, .fixed, fun _ _ => .txs⟩,
      ⟨0x9D, "STA", .absx, 5, .fixed, fun b1 b2 => .staAbsx (wordOf b2 b1)⟩ ]
  | 0xA =>
    [ ⟨0xA0, "LDY", .imm, 2, .fixed, fun b1 _ => .ldyImm b1⟩,
      ⟨0xA1, "LDA", .indx, 6, .fixed, fun b1 _ => .ldaIndx b1⟩,
      ⟨0xA2, "LDX", .imm, 2, .fixed, fun b1 _ => .ldxImm b1⟩,
      ⟨0xA4, "LDY", .zp, 3, .fixed, fun b1 _ => .ldyZp b1⟩,
      ⟨0xA5, "LDA", .zp, 3, .fixed, fun b1 _ => .ldaZp b1⟩,
      ⟨0xA6, "LDX", .zp, 3, .fixed, fun b1 _ => .ldxZp b1⟩,
      ⟨0xA8, "TAY", .imp, 2, .fixed, fun _ _ => .tay⟩,
      ⟨0xA9, "LDA", .imm, 2, .fixed, fun b1 _ => .ldaImm b1⟩,
      ⟨0xAA, "TAX", .imp, 2, .fixed, fun _ _ => .tax⟩,
      ⟨0xAC, "LDY", .abs, 4, .fixed, fun b1 b2 => .ldyAbs (wordOf b2 b1)⟩,
      ⟨0xAD, "LDA", .abs, 4, .fixed, fun b1 b2 => .ldaAbs (wordOf b2 b1)⟩,
      ⟨0xAE, "LDX", .abs, 4, .fixed, fun b1 b2 => .ldxAbs (wordOf b2 b1)⟩ ]
  | 0xB =>
    [ ⟨0xB0, "BCS", .rel, 2, .branch .cs, fun b1 _ => .bcs b1⟩,
      ⟨0xB1, "LDA", .indy, 5, .pageCross, fun b1 _ => .ldaIndy b1⟩,
      ⟨0xB4, "LDY", .zpx, 4, .fixed, fun b1 _ => .ldyZpx b1⟩,
      ⟨0xB5, "LDA", .zpx, 4, .fixed, fun b1 _ => .ldaZpx b1⟩,
      ⟨0xB6, "LDX", .zpy, 4, .fixed, fun b1 _ => .ldxZpy b1⟩,
      ⟨0xB8, "CLV", .imp, 2, .fixed, fun _ _ => .clv⟩,
      ⟨0xB9, "LDA", .absy, 4, .pageCross, fun b1 b2 => .ldaAbsy (wordOf b2 b1)⟩,
      ⟨0xBA, "TSX", .imp, 2, .fixed, fun _ _ => .tsx⟩,
      ⟨0xBC, "LDY", .absx, 4, .pageCross, fun b1 b2 => .ldyAbsx (wordOf b2 b1)⟩,
      ⟨0xBD, "LDA", .absx, 4, .pageCross, fun b1 b2 => .ldaAbsx (wordOf b2 b1)⟩,
      ⟨0xBE, "LDX", .absy, 4, .pageCross, fun b1 b2 => .ldxAbsy (wordOf b2 b1)⟩ ]
  | 0xC =>
    [ ⟨0xC0, "CPY", .imm, 2, .fixed, fun b1 _ => .cpyImm b1⟩,
      ⟨0xC1, "CMP", .indx, 6, .fixed, fun b1 _ => .cmpIndx b1⟩,
      ⟨0xC4, "CPY", .zp, 3, .fixed, fun b1 _ => .cpyZp b1⟩,
      ⟨0xC5, "CMP", .zp, 3, .fixed, fun b1 _ => .cmpZp b1⟩,
      ⟨0xC6, "DEC", .zp, 5, .fixed, fun b1 _ => .decZp b1⟩,
      ⟨0xC8, "INY", .imp, 2, .fixed, fun _ _ => .iny⟩,
      ⟨0xC9, "CMP", .imm, 2, .fixed, fun b1 _ => .cmpImm b1⟩,
      ⟨0xCA, "DEX", .imp, 2, .fixed, fun _ _ => .dex⟩,
      ⟨0xCC, "CPY", .abs, 4, .fixed, fun b1 b2 => .cpyAbs (wordOf b2 b1)⟩,
      ⟨0xCD, "CMP", .abs, 4, .fixed, fun b1 b2 => .cmpAbs (wordOf b2 b1)⟩,
      ⟨0xCE, "DEC", .abs, 6, .fixed, fun b1 b2 => .decAbs (wordOf b2 b1)⟩ ]
  | 0xD =>
    [ ⟨0xD0, "BNE", .rel, 2, .branch .ne, fun b1 _ => .bne b1⟩,
      ⟨0xD1, "CMP", .indy, 5, .pageCross, fun b1 _ => .cmpIndy b1⟩,
      ⟨0xD5, "CMP", .zpx, 4, .fixed, fun b1 _ => .cmpZpx b1⟩,
      ⟨0xD6, "DEC", .zpx, 6, .fixed, fun b1 _ => .decZpx b1⟩,
      ⟨0xD8, "CLD", .imp, 2, .fixed, fun _ _ => .cld⟩,
      ⟨0xD9, "CMP", .absy, 4, .pageCross, fun b1 b2 => .cmpAbsy (wordOf b2 b1)⟩,
      ⟨0xDD, "CMP", .absx, 4, .pageCross, fun b1 b2 => .cmpAbsx (wordOf b2 b1)⟩,
      ⟨0xDE, "DEC", .absx, 7, .fixed, fun b1 b2 => .decAbsx (wordOf b2 b1)⟩ ]
  | 0xE =>
    [ ⟨0xE0, "CPX", .imm, 2, .fixed, fun b1 _ => .cpxImm b1⟩,
      ⟨0xE1, "SBC", .indx, 6, .fixed, fun b1 _ => .sbcIndx b1⟩,
      ⟨0xE4, "CPX", .zp, 3, .fixed, fun b1 _ => .cpxZp b1⟩,
      ⟨0xE5, "SBC", .zp, 3, .fixed, fun b1 _ => .sbcZp b1⟩,
      ⟨0xE6, "INC", .zp, 5, .fixed, fun b1 _ => .incZp b1⟩,
      ⟨0xE8, "INX", .imp, 2, .fixed, fun _ _ => .inx⟩,
      ⟨0xE9, "SBC", .imm, 2, .fixed, fun b1 _ => .sbcImm b1⟩,
      ⟨0xEA, "NOP", .imp, 2, .fixed, fun _ _ => .nop⟩,
      ⟨0xEC, "CPX", .abs, 4, .fixed, fun b1 b2 => .cpxAbs (wordOf b2 b1)⟩,
      ⟨0xED, "SBC", .abs, 4, .fixed, fun b1 b2 => .sbcAbs (wordOf b2 b1)⟩,
      ⟨0xEE, "INC", .abs, 6, .fixed, fun b1 b2 => .incAbs (wordOf b2 b1)⟩ ]
  | 0xF =>
    [ ⟨0xF0, "BEQ", .rel, 2, .branch .eq, fun b1 _ => .beq b1⟩,
      ⟨0xF1, "SBC", .indy, 5, .pageCross, fun b1 _ => .sbcIndy b1⟩,
      ⟨0xF5, "SBC", .zpx, 4, .fixed, fun b1 _ => .sbcZpx b1⟩,
      ⟨0xF6, "INC", .zpx, 6, .fixed, fun b1 _ => .incZpx b1⟩,
      ⟨0xF8, "SED", .imp, 2, .fixed, fun _ _ => .sed⟩,
      ⟨0xF9, "SBC", .absy, 4, .pageCross, fun b1 b2 => .sbcAbsy (wordOf b2 b1)⟩,
      ⟨0xFD, "SBC", .absx, 4, .pageCross, fun b1 b2 => .sbcAbsx (wordOf b2 b1)⟩,
      ⟨0xFE, "INC", .absx, 7, .fixed, fun b1 b2 => .incAbsx (wordOf b2 b1)⟩ ]
  | _ => []

/-- The table row of an opcode byte; none for the 105 undefined ones (R122). -/
def findRow (op : Byte) : Option OpRow :=
  (rowsOf (op.toNat / 16)).find? fun r => r.opcode == op

/-- Why bytes are no instruction. -/
inductive DecodeError where
  /-- the opcode byte is one of the 105 of R122 -/
  | illegalOpcode (op : Byte)
  /-- the list ends before the instruction does; no fetch of the machine meets this -/
  | truncated
deriving DecidableEq, Repr

/-- What a row makes of the bytes after the opcode, with the bytes left over (R102, R103). -/
def OpRow.read (r : OpRow) (rest : List Byte) : Except DecodeError (Instr × List Byte) :=
  match r.mode.length, rest with
  | 1, rest => .ok (r.make 0 0, rest)
  | 2, b1 :: rest => .ok (r.make b1 0, rest)
  | 3, b1 :: b2 :: rest => .ok (r.make b1 b2, rest)
  | _, _ => .error .truncated

/-- Decode the instruction at the head of a list of bytes; answer it with the bytes after it. -/
def decode : List Byte → Except DecodeError (Instr × List Byte)
  | [] => .error .truncated
  | op :: rest =>
    match findRow op with
    | none => .error (.illegalOpcode op)
    | some r => r.read rest

/-- How many bytes the instruction with this opcode has (R121). An undefined opcode has no length: only the opcode
byte itself is ever read (R101). -/
def lengthOf (op : Byte) : Nat :=
  match findRow op with
  | none => 1
  | some r => r.mode.length

/-! ### The encoder -/

/-- The opcode byte of an instruction (the mnemonic table of R120). -/
def Instr.opcode : Instr → Byte
  | .ldaImm _ => 0xA9
  | .ldaZp _ => 0xA5
  | .ldaZpx _ => 0xB5
  | .ldaAbs _ => 0xAD
  | .ldaAbsx _ => 0xBD
  | .ldaAbsy _ => 0xB9
  | .ldaIndx _ => 0xA1
  | .ldaIndy _ => 0xB1
  | .ldxImm _ => 0xA2
  | .ldxZp _ => 0xA6
  | .ldxZpy _ => 0xB6
  | .ldxAbs _ => 0xAE
  | .ldxAbsy _ => 0xBE
  | .ldyImm _ => 0xA0
  | .ldyZp _ => 0xA4
  | .ldyZpx _ => 0xB4
  | .ldyAbs _ => 0xAC
  | .ldyAbsx _ => 0xBC
  | .staZp _ => 0x85
  | .staZpx _ => 0x95
  | .staAbs _ => 0x8D
  | .staAbsx _ => 0x9D
  | .staAbsy _ => 0x99
  | .staIndx _ => 0x81
  | .staIndy _ => 0x91
  | .stxZp _ => 0x86
  | .stxZpy _ => 0x96
  | .stxAbs _ => 0x8E
  | .styZp _ => 0x84
  | .styZpx _ => 0x94
  | .styAbs _ => 0x8C
  | .tax => 0xAA
  | .tay => 0xA8
  | .txa => 0x8A
  | .tya => 0x98
  | .tsx => 0xBA
  | .txs => 0x9A
  | .pha => 0x48
  | .php => 0x08
  | .pla => 0x68
  | .plp => 0x28
  | .adcImm _ => 0x69
  | .adcZp _ => 0x65
  | .adcZpx _ => 0x75
  | .adcAbs _ => 0x6D
  | .adcAbsx _ => 0x7D
  | .adcAbsy _ => 0x79
  | .adcIndx _ => 0x61
  | .adcIndy _ => 0x71
  | .sbcImm _ => 0xE9
  | .sbcZp _ => 0xE5
  | .sbcZpx _ => 0xF5
  | .sbcAbs _ => 0xED
  | .sbcAbsx _ => 0xFD
  | .sbcAbsy _ => 0xF9
  | .sbcIndx _ => 0xE1
  | .sbcIndy _ => 0xF1
  | .andImm _ => 0x29
  | .andZp _ => 0x25
  | .andZpx _ => 0x35
  | .andAbs _ => 0x2D
  | .andAbsx _ => 0x3D
  | .andAbsy _ => 0x39
  | .andIndx _ => 0x21
  | .andIndy _ => 0x31
  | .oraImm _ => 0x09
  | .oraZp _ => 0x05
  | .oraZpx _ => 0x15
  | .oraAbs _ => 0x0D
  | .oraAbsx _ => 0x1D
  | .oraAbsy _ => 0x19
  | .oraIndx _ => 0x01
  | .oraIndy _ => 0x11
  | .eorImm _ => 0x49
  | .eorZp _ => 0x45
  | .eorZpx _ => 0x55
  | .eorAbs _ => 0x4D
  | .eorAbsx _ => 0x5D
  | .eorAbsy _ => 0x59
  | .eorIndx _ => 0x41
  | .eorIndy _ => 0x51
  | .cmpImm _ => 0xC9
  | .cmpZp _ => 0xC5
  | .cmpZpx _ => 0xD5
  | .cmpAbs _ => 0xCD
  | .cmpAbsx _ => 0xDD
  | .cmpAbsy _ => 0xD9
  | .cmpIndx _ => 0xC1
  | .cmpIndy _ => 0xD1
  | .cpxImm _ => 0xE0
  | .cpxZp _ => 0xE4
  | .cpxAbs _ => 0xEC
  | .cpyImm _ => 0xC0
  | .cpyZp _ => 0xC4
  | .cpyAbs _ => 0xCC
  | .bitZp _ => 0x24
  | .bitAbs _ => 0x2C
  | .incZp _ => 0xE6
  | .incZpx _ => 0xF6
  | .incAbs _ => 0xEE
  | .incAbsx _ => 0xFE
  | .decZp _ => 0xC6
  | .decZpx _ => 0xD6
  | .decAbs _ => 0xCE
  | .decAbsx _ => 0xDE
  | .inx => 0xE8
  | .iny => 0xC8
  | .dex => 0xCA
  | .dey => 0x88
  | .aslAcc => 0x0A
  | .aslZp _ => 0x06
  | .aslZpx _ => 0x16
  | .aslAbs _ => 0x0E
  | .aslAbsx _ => 0x1E
  | .lsrAcc => 0x4A
  | .lsrZp _ => 0x46
  | .lsrZpx _ => 0x56
  | .lsrAbs _ => 0x4E
  | .lsrAbsx _ => 0x5E
  | .rolAcc => 0x2A
  | .rolZp _ => 0x26
  | .rolZpx _ => 0x36
  | .rolAbs _ => 0x2E
  | .rolAbsx _ => 0x3E
  | .rorAcc => 0x6A
  | .rorZp _ => 0x66
  | .rorZpx _ => 0x76
  | .rorAbs _ => 0x6E
  | .rorAbsx _ => 0x7E
  | .jmpAbs _ => 0x4C
  | .jmpInd _ => 0x6C
  | .jsr _ => 0x20
  | .rts => 0x60
  | .bcc _ => 0x90
  | .bcs _ => 0xB0
  | .beq _ => 0xF0
  | .bne _ => 0xD0
  | .bmi _ => 0x30
  | .bpl _ => 0x10
  | .bvc _ => 0x50
  | .bvs _ => 0x70
  | .clc => 0x18
  | .sec => 0x38
  | .cli => 0x58
  | .sei => 0x78
  | .cld => 0xD8
  | .sed => 0xF8
  | .clv => 0xB8
  | .nop => 0xEA
  | .brk => 0x00
  | .rti => 0x40

/-- The operand bytes of an instruction, the low byte of a word first (R103). -/
def Instr.operands : Instr → List Byte
  | .ldaImm d8 => [d8]
  | .ldaZp d8 => [d8]
  | .ldaZpx d8 => [d8]
  | .ldaAbs a16 => [loByte a16, hiByte a16]
  | .ldaAbsx a16 => [loByte a16, hiByte a16]
  | .ldaAbsy a16 => [loByte a16, hiByte a16]
  | .ldaIndx d8 => [d8]
  | .ldaIndy d8 => [d8]
  | .ldxImm d8 => [d8]
  | .ldxZp d8 => [d8]
  | .ldxZpy d8 => [d8]
  | .ldxAbs a16 => [loByte a16, hiByte a16]
  | .ldxAbsy a16 => [loByte a16, hiByte a16]
  | .ldyImm d8 => [d8]
  | .ldyZp d8 => [d8]
  | .ldyZpx d8 => [d8]
  | .ldyAbs a16 => [loByte a16, hiByte a16]
  | .ldyAbsx a16 => [loByte a16, hiByte a16]
  | .staZp d8 => [d8]
  | .staZpx d8 => [d8]
  | .staAbs a16 => [loByte a16, hiByte a16]
  | .staAbsx a16 => [loByte a16, hiByte a16]
  | .staAbsy a16 => [loByte a16, hiByte a16]
  | .staIndx d8 => [d8]
  | .staIndy d8 => [d8]
  | .stxZp d8 => [d8]
  | .stxZpy d8 => [d8]
  | .stxAbs a16 => [loByte a16, hiByte a16]
  | .styZp d8 => [d8]
  | .styZpx d8 => [d8]
  | .styAbs a16 => [loByte a16, hiByte a16]
  | .tax => []
  | .tay => []
  | .txa => []
  | .tya => []
  | .tsx => []
  | .txs => []
  | .pha => []
  | .php => []
  | .pla => []
  | .plp => []
  | .adcImm d8 => [d8]
  | .adcZp d8 => [d8]
  | .adcZpx d8 => [d8]
  | .adcAbs a16 => [loByte a16, hiByte a16]
  | .adcAbsx a16 => [loByte a16, hiByte a16]
  | .adcAbsy a16 => [loByte a16, hiByte a16]
  | .adcIndx d8 => [d8]
  | .adcIndy d8 => [d8]
  | .sbcImm d8 => [d8]
  | .sbcZp d8 => [d8]
  | .sbcZpx d8 => [d8]
  | .sbcAbs a16 => [loByte a16, hiByte a16]
  | .sbcAbsx a16 => [loByte a16, hiByte a16]
  | .sbcAbsy a16 => [loByte a16, hiByte a16]
  | .sbcIndx d8 => [d8]
  | .sbcIndy d8 => [d8]
  | .andImm d8 => [d8]
  | .andZp d8 => [d8]
  | .andZpx d8 => [d8]
  | .andAbs a16 => [loByte a16, hiByte a16]
  | .andAbsx a16 => [loByte a16, hiByte a16]
  | .andAbsy a16 => [loByte a16, hiByte a16]
  | .andIndx d8 => [d8]
  | .andIndy d8 => [d8]
  | .oraImm d8 => [d8]
  | .oraZp d8 => [d8]
  | .oraZpx d8 => [d8]
  | .oraAbs a16 => [loByte a16, hiByte a16]
  | .oraAbsx a16 => [loByte a16, hiByte a16]
  | .oraAbsy a16 => [loByte a16, hiByte a16]
  | .oraIndx d8 => [d8]
  | .oraIndy d8 => [d8]
  | .eorImm d8 => [d8]
  | .eorZp d8 => [d8]
  | .eorZpx d8 => [d8]
  | .eorAbs a16 => [loByte a16, hiByte a16]
  | .eorAbsx a16 => [loByte a16, hiByte a16]
  | .eorAbsy a16 => [loByte a16, hiByte a16]
  | .eorIndx d8 => [d8]
  | .eorIndy d8 => [d8]
  | .cmpImm d8 => [d8]
  | .cmpZp d8 => [d8]
  | .cmpZpx d8 => [d8]
  | .cmpAbs a16 => [loByte a16, hiByte a16]
  | .cmpAbsx a16 => [loByte a16, hiByte a16]
  | .cmpAbsy a16 => [loByte a16, hiByte a16]
  | .cmpIndx d8 => [d8]
  | .cmpIndy d8 => [d8]
  | .cpxImm d8 => [d8]
  | .cpxZp d8 => [d8]
  | .cpxAbs a16 => [loByte a16, hiByte a16]
  | .cpyImm d8 => [d8]
  | .cpyZp d8 => [d8]
  | .cpyAbs a16 => [loByte a16, hiByte a16]
  | .bitZp d8 => [d8]
  | .bitAbs a16 => [loByte a16, hiByte a16]
  | .incZp d8 => [d8]
  | .incZpx d8 => [d8]
  | .incAbs a16 => [loByte a16, hiByte a16]
  | .incAbsx a16 => [loByte a16, hiByte a16]
  | .decZp d8 => [d8]
  | .decZpx d8 => [d8]
  | .decAbs a16 => [loByte a16, hiByte a16]
  | .decAbsx a16 => [loByte a16, hiByte a16]
  | .inx => []
  | .iny => []
  | .dex => []
  | .dey => []
  | .aslAcc => []
  | .aslZp d8 => [d8]
  | .aslZpx d8 => [d8]
  | .aslAbs a16 => [loByte a16, hiByte a16]
  | .aslAbsx a16 => [loByte a16, hiByte a16]
  | .lsrAcc => []
  | .lsrZp d8 => [d8]
  | .lsrZpx d8 => [d8]
  | .lsrAbs a16 => [loByte a16, hiByte a16]
  | .lsrAbsx a16 => [loByte a16, hiByte a16]
  | .rolAcc => []
  | .rolZp d8 => [d8]
  | .rolZpx d8 => [d8]
  | .rolAbs a16 => [loByte a16, hiByte a16]
  | .rolAbsx a16 => [loByte a16, hiByte a16]
  | .rorAcc => []
  | .rorZp d8 => [d8]
  | .rorZpx d8 => [d8]
  | .rorAbs a16 => [loByte a16, hiByte a16]
  | .rorAbsx a16 => [loByte a16, hiByte a16]
  | .jmpAbs a16 => [loByte a16, hiByte a16]
  | .jmpInd a16 => [loByte a16, hiByte a16]
  | .jsr a16 => [loByte a16, hiByte a16]
  | .rts => []
  | .bcc rel => [rel]
  | .bcs rel => [rel]
  | .beq rel => [rel]
  | .bne rel => [rel]
  | .bmi rel => [rel]
  | .bpl rel => [rel]
  | .bvc rel => [rel]
  | .bvs rel => [rel]
  | .clc => []
  | .sec => []
  | .cli => []
  | .sei => []
  | .cld => []
  | .sed => []
  | .clv => []
  | .nop => []
  | .brk => []
  | .rti => []

/-- The bytes of an instruction in the order they are stored (R102). -/
def encode (i : Instr) : List Byte := i.opcode :: i.operands

/-- The length of an instruction in bytes. -/
def Instr.length (i : Instr) : Nat := (encode i).length

/-! ### The host's table numbering -/

/-- The first three bytes of a word of `nbits` bits, numbered as spec/opcode_table.json numbers them: bit 0 is the
least significant bit of the first byte, and bits at `nbits` and above are 0. -/
def tableBytes (nbits w : Nat) : List Byte :=
  let v := w % 2 ^ nbits
  [BitVec.ofNat 8 v, BitVec.ofNat 8 (v / 256), BitVec.ofNat 8 (v / 65536)]

/-- The instruction the decoder reads from an instruction word of the table. -/
def decodeTableWord (nbits w : Nat) : Option Instr :=
  match decode (tableBytes nbits w) with
  | .ok (i, _) => some i
  | .error _ => none

end Sys2Proof
end

