-- ==== Sys2Proof/Config.lean ====
section
/-! DEFINITION. What is fixed for one machine: the parameters of spec/00_scope.md R6, the fixed ones as
constants and the OPEN ones as the fields of `Config`, and the free values (R11, "draw").
The machine's state carries its `Config` (log entry 1), so a statement about every state is about every
configuration too. -/

namespace Sys2Proof

/-- What owns a range of bus addresses (spec/20_memory.md R63). -/
inductive Target where
  | ram
  | rom
  | kbdPort
  | kbdDdr
  | kbdCtrl
  | kbdCtrlDdr
  | crtcAddr
  | crtcData
  | icAck
deriving DecidableEq, Repr

/-- One entry of `BUS_MAP`: the addresses `lo` to `hi`, both included, belong to `target` (R63). -/
structure MapEntry where
  lo : Addr
  hi : Addr
  target : Target
deriving DecidableEq, Repr

/-- Class of an interrupt source (spec/60_exceptions.md R280). -/
inductive IntClass where
  | irq
  | nmi
deriving DecidableEq, Repr

/-- Trigger kind of an interrupt source (R280). -/
inductive Trigger where
  | edge
  | level
deriving DecidableEq, Repr

/-- One source of `EXTRA_SOURCES` (spec/60_exceptions.md R281). -/
structure ExtraSource where
  name : String
  cls : IntClass
  trigger : Trigger
  /-- its bit of `IC_ACK`, 2 to 6 (log entry 10) -/
  ackBit : Option Nat
deriving DecidableEq, Repr

/-- Parameter `DECIMAL_NVZ` (spec/00_scope.md R6, decision D8). -/
inductive DecimalNvz where
  | draw
  | nmos
deriving DecidableEq, Repr

/-- The OPEN parameters of spec/00_scope.md R6. The seven register addresses stand in `busMap`, each as the
range of its register's entry. -/
structure Config where
  busMap : List MapEntry
  kbdEnablePattern : Byte
  kbdDisablePattern : Byte
  kbdTickInterval : Nat
  extraSources : List ExtraSource
  decimalNvz : DecimalNvz
  jmpIndPageWrap : Bool
deriving DecidableEq, Repr

namespace Config

/-- The default `BUS_MAP` (spec/20_memory.md R66); the five RAM ranges of page $FE are the device `io_fill`. -/
def defaultMap : List MapEntry :=
  [ ⟨0x0000, 0x7FFF, .ram⟩,
    ⟨0x8000, 0xFDFF, .rom⟩,
    ⟨0xFE00, 0xFE00, .crtcAddr⟩,
    ⟨0xFE01, 0xFE01, .crtcData⟩,
    ⟨0xFE02, 0xFE3F, .ram⟩,
    ⟨0xFE40, 0xFE40, .kbdCtrl⟩,
    ⟨0xFE41, 0xFE41, .ram⟩,
    ⟨0xFE42, 0xFE42, .kbdCtrlDdr⟩,
    ⟨0xFE43, 0xFE43, .kbdDdr⟩,
    ⟨0xFE44, 0xFE4C, .ram⟩,
    ⟨0xFE4D, 0xFE4D, .icAck⟩,
    ⟨0xFE4E, 0xFE4E, .ram⟩,
    ⟨0xFE4F, 0xFE4F, .kbdPort⟩,
    ⟨0xFE50, 0xFEFF, .ram⟩,
    ⟨0xFF00, 0xFFFF, .rom⟩ ]

/-- Every OPEN parameter at its default (spec/00_scope.md R6). -/
def default : Config where
  busMap := defaultMap
  kbdEnablePattern := 0x0B
  kbdDisablePattern := 0x03
  kbdTickInterval := 2
  extraSources := []
  decimalNvz := .draw
  jmpIndPageWrap := true

/-- `VEC_NMI` (R6, decision D5). -/
def vecNmi : Addr := 0xFFFA
/-- `VEC_RESET`. -/
def vecReset : Addr := 0xFFFC
/-- `VEC_IRQ`, shared by IRQ and BRK. -/
def vecIrq : Addr := 0xFFFE
/-- `STACK_PAGE` (decision D4). -/
def stackPage : Byte := 0x01
/-- `KBD_DDR_SCAN_PATTERN` (decision D15). -/
def kbdDdrScanPattern : Byte := 0x7F
/-- `INT_ENTRY_CYCLES` (decision D25). -/
def intEntryCycles : Nat := 7

/-- Free value: N after the k-th decimal ADC or SBC under `DECIMAL_NVZ = draw` (spec/42_arith_logic.md R174,
R175; log entry 7). Nothing is known of it. -/
opaque drawN : Nat → Bool
/-- Free value: V after the k-th decimal ADC or SBC under `DECIMAL_NVZ = draw` (log entry 7). -/
opaque drawV : Nat → Bool
/-- Free value: Z after the k-th decimal ADC or SBC under `DECIMAL_NVZ = draw` (log entry 7). -/
opaque drawZ : Nat → Bool

end Config

end Sys2Proof
end

