-- ==== Sys2Proof/Machine/State.lean ====
section
/-! DEFINITION. The state of the machine, as plain data (spec/10_state.md), the reasons a step can stop, and the
state after reset (R40). -/

namespace Sys2Proof.Machine

/-- The six stored flags of `P` (spec/10_state.md R25; break and bit 5 are not storage, R27). -/
structure Flags where
  n : Bool
  v : Bool
  d : Bool
  i : Bool
  z : Bool
  c : Bool
deriving DecidableEq, Repr

/-- `fault_info`: the address and the opcode byte of the `IllegalOpcode` fault (R32). -/
structure FaultInfo where
  addr : Addr
  opcode : Byte
deriving DecidableEq, Repr

/-- The stored flags of the interrupt controller (R35). `extra` has one entry per source of `EXTRA_SOURCES`, in the
configuration's order: the latch of an edge source, the host's condition of a level source (log entry 10). -/
structure InterruptController where
  crtc : Bool
  nmiExt : Bool
  extra : List Bool
deriving DecidableEq, Repr

/-- The keyboard matrix controller (R36). -/
structure Keyboard where
  scanRow : Fin 7
  we : Bool
  ddrA : Byte
  ddrB : Byte
  ora : Byte
  orb : Byte
  tick : Nat
deriving DecidableEq, Repr

/-- The CRTC register file (R37). -/
structure Crtc where
  addr : BitVec 5
  reg : Vector Byte 18
deriving DecidableEq, Repr

/-- The host input `matrix`: key `r`, `c` is down (R38; 7 rows, 10 columns). -/
abbrev KeyMatrix := Vector (Vector Bool 10) 7

/-- No key down. -/
def KeyMatrix.none : KeyMatrix := Vector.replicate 7 (Vector.replicate 10 false)

/-- What the host supplies at one boundary (R38, spec/60_exceptions.md R281): a new key grid if it changes, the two
events, and for each extra source in order whether its event occurs (edge) or its condition holds (level); an
`extra` shorter than the list of sources leaves the rest as they are. -/
structure HostInput where
  matrix : Option KeyMatrix := Option.none
  crtcEvent : Bool := false
  nmiEvent : Bool := false
  extra : List Bool := []
deriving DecidableEq, Repr

/-- Memory: (address, byte) cells, addresses strictly rising, no cell equal to `Memory.unlisted` (`Memory.wf`). -/
abbrev Memory := List Host.Cell

/-- What an address with no cell reads as (log entry 4). -/
def Memory.unlisted : Byte := 0x00

/-- Every cell's address is at least the given bound and below 65536, its byte is not `Memory.unlisted`, and addresses
rise strictly. -/
def Memory.wfFrom : Nat → Memory → Bool
  | _, [] => true
  | lo, (a, v) :: m => decide (lo ≤ a) && decide (a < 65536) && v != Memory.unlisted && Memory.wfFrom (a + 1) m

/-- The canonical form of memory: equal memories are equal lists. -/
def Memory.wf (m : Memory) : Bool := Memory.wfFrom 0 m

/-- The state of the machine between two calls of `step()`. -/
structure State where
  /-- the parameters of spec/00_scope.md R6; no step writes it (log entry 1) -/
  config : Config
  a : Byte
  x : Byte
  y : Byte
  sp : Byte
  pc : Addr
  p : Flags
  /-- `halted` and `fault_info` (R32): `some` exactly when `halted = 1` (log entry 6) -/
  halted : Option FaultInfo
  cycles : Nat
  mem : Memory
  ic : InterruptController
  kbd : Keyboard
  crtc : Crtc
  /-- the host input `matrix` as it stands (R38; log entry 2) -/
  matrix : KeyMatrix
  /-- what the host supplies at the coming boundaries, the next one first (log entry 2) -/
  inputs : List HostInput
  /-- how many draws the rules have made (the model's own field; log entry 7) -/
  freeCount : Nat
deriving DecidableEq, Repr

/-- Why a step faults. -/
inductive Fault where
  /-- `IllegalOpcode(addr, opcode)` (spec/60_exceptions.md R261), raised by `step` when the byte fetched at PC is one
  of the 105 undefined opcodes; `left` is the state the fault leaves: the state before the step but for the fault
  latch. Safe: it is the spec's own fault, with the spec's own effect (log entry 6). -/
  | illegalOpcode (addr : Addr) (opcode : Byte) (left : State)
deriving DecidableEq, Repr

/-- Why a step is refused. -/
inductive Refusal where
  /-- raised by an arm of `exec` whose instruction has no meaning yet; safe (no arm raises it now) -/
  | notModelled (mnemonic : String)
  /-- raised by `step` while `halted = 1` (spec/60_exceptions.md R262): "returns the same fault"; safe, it is the
  spec's own refusal -/
  | halted (info : FaultInfo)
deriving DecidableEq, Repr

/-- The flags after reset: I is 1 (R40); the others are draws there, here 0 (log entry 3). -/
def Flags.reset : Flags := { n := false, v := false, d := false, i := true, z := false, c := false }

/-- The interrupt controller after reset with no extra sources (R40). -/
def InterruptController.reset : InterruptController := { crtc := false, nmiExt := false, extra := [] }

/-- The keyboard controller after reset (R40). -/
def Keyboard.reset : Keyboard :=
  { scanRow := 0, we := false, ddrA := 0x00, ddrB := 0x00, ora := 0x00, orb := 0x00, tick := 0 }

/-- The CRTC after reset (R40). -/
def Crtc.reset : Crtc := { addr := 0, reg := Vector.replicate 18 0x00 }

/-- The machine right after reset (R40, spec/70_reset_and_hazards.md R340, R341): the default configuration, no memory
image loaded. PC is the word at the reset vector, which in that memory is $0000 (log entry 8). -/
def State.reset : State where
  config := Config.default
  a := 0x00
  x := 0x00
  y := 0x00
  sp := 0x00
  pc := 0x0000
  p := Flags.reset
  halted := none
  cycles := 0
  mem := []
  ic := InterruptController.reset
  kbd := Keyboard.reset
  crtc := Crtc.reset
  matrix := KeyMatrix.none
  inputs := []
  freeCount := 0

end Sys2Proof.Machine
end

