-- ==== Sys2Proof/Machine/Flags.lean ====
section
/-! DEFINITION. Every flag computation of the spec: the byte image of P (spec/10_state.md R25, R27), `SetNZ` (R31), and
the results of the arithmetic, compare and shift helpers with their flags (spec/42_arith_logic.md R171 to R173, R179;
spec/43_shift_rotate.md R201 to R204). -/

namespace Sys2Proof.Machine

/-- `PByte(b)` (spec/10_state.md R25): `N*128 + V*64 + 32 + b*16 + D*8 + I*4 + Z*2 + C`. -/
def Flags.toByte (p : Flags) (b : Bool) : Byte :=
  BitVec.ofNat 8 (p.n.toNat * 128 + p.v.toNat * 64 + 32 + b.toNat * 16 + p.d.toNat * 8 + p.i.toNat * 4 +
    p.z.toNat * 2 + p.c.toNat)

/-- The six stored flags of a pulled byte; its bits 5 and 4 are ignored (R27; PLP R165, RTI R239). -/
def Flags.ofByte (b : Byte) : Flags :=
  { n := b.getLsbD 7, v := b.getLsbD 6, d := b.getLsbD 3, i := b.getLsbD 2, z := b.getLsbD 1, c := b.getLsbD 0 }

/-- `SetNZ(v)` (R31). -/
def Flags.withNZ (p : Flags) (v : Byte) : Flags := { p with n := v.msb, z := v == 0 }

/-- `SetNZ(v)` on the state. -/
def setNZ (v : Byte) (s : State) : State := { s with p := s.p.withNZ v }

/-- What an 8-bit addition or subtraction yields: the byte and the flags of its rule. -/
structure AluResult where
  r : Byte
  c : Bool
  n : Bool
  v : Bool
  z : Bool
deriving DecidableEq, Repr

/-- `AddBinary(a, m, c)` (spec/42_arith_logic.md R171), with N and Z of the result. -/
def addBinary (a m : Byte) (c : Bool) : AluResult :=
  let s := a.toNat + m.toNat + c.toNat
  let r := BitVec.ofNat 8 s
  { r := r
    c := decide (256 ≤ s)
    n := r.msb
    v := (((a ^^^ r) &&& (m ^^^ r)) &&& 0x80#8) != 0#8
    z := r == 0 }

/-- `AddDecimal(a, m, c)` (R172). -/
def addDecimal (a m : Byte) (c : Bool) : AluResult :=
  let al0 := a.toNat % 16 + m.toNat % 16 + c.toNat
  let al := if 0x0A ≤ al0 then (al0 + 0x06) % 16 + 0x10 else al0
  let s0 := a.toNat / 16 * 16 + m.toNat / 16 * 16 + al
  let s := if 0xA0 ≤ s0 then s0 + 0x60 else s0
  { r := BitVec.ofNat 8 s
    c := decide (0x100 ≤ s)
    n := s0.testBit 7
    v := ((a.toNat ^^^ s0) &&& (m.toNat ^^^ s0)).testBit 7
    z := (a.toNat + m.toNat + c.toNat) % 256 == 0 }

/-- `SubDecimal(a, m, c)` (R173); `%` on `Int` is the mathematical modulo. -/
def subDecimal (a m : Byte) (c : Bool) : Byte :=
  let al0 : Int := (a.toNat % 16 : Nat) - (m.toNat % 16 : Nat) + c.toNat - 1
  let al : Int := if al0 < 0 then (al0 - 0x06) % 16 - 0x10 else al0
  let s0 : Int := (a.toNat / 16 * 16 : Nat) - (m.toNat / 16 * 16 : Nat) + al
  let s : Int := if s0 < 0 then s0 - 0x60 else s0
  BitVec.ofInt 8 s

/-- `Compare(r, m)` (R179): C, Z and N; V is not written. -/
def Flags.compare (p : Flags) (r m : Byte) : Flags :=
  { p with c := decide (m.toNat ≤ r.toNat), z := r == m, n := (r - m).msb }

/-- A shift or rotate: the result byte and the new carry, of the source byte and the old carry. -/
abbrev ShiftOp := Byte → Bool → Byte × Bool

/-- ASL (spec/43_shift_rotate.md R201). -/
def aslOp : ShiftOp := fun v _ => (v <<< 1, v.getLsbD 7)

/-- LSR (R202). -/
def lsrOp : ShiftOp := fun v _ => (v >>> 1, v.getLsbD 0)

/-- ROL (R203): the old carry enters bit 0. -/
def rolOp : ShiftOp := fun v c => ((v <<< 1) ||| (if c then 0x01#8 else 0x00#8), v.getLsbD 7)

/-- ROR (R204): the old carry enters bit 7. -/
def rorOp : ShiftOp := fun v c => ((v >>> 1) ||| (if c then 0x80#8 else 0x00#8), v.getLsbD 0)

/-- The condition of a branch (spec/44_control_flow.md R215 to R222). -/
def branchHolds (p : Flags) : BranchCond → Bool
  | .cc => !p.c
  | .cs => p.c
  | .eq => p.z
  | .ne => !p.z
  | .mi => p.n
  | .pl => !p.n
  | .vc => !p.v
  | .vs => p.v

end Sys2Proof.Machine
end

