-- ==== Sys2Proof/Machine/Devices.lean ====
section
/-! DEFINITION. The peripherals behind the bus: the keyboard matrix controller, the interrupt controller and the CRTC
register file (spec/60_exceptions.md sections 3 to 5), the tick they get at the end of a step (R300) and what the host
does to them at a boundary (spec/10_state.md R38). -/

namespace Sys2Proof.Machine

/-! ### The keyboard matrix controller -/

/-- `KeyDown(row, col)` (R294): false at a position outside the 7 by 10 grid. -/
def keyDown (m : KeyMatrix) (row col : Nat) : Bool :=
  if h : row < 7 then
    if h' : col < 10 then m[row][col] else false
  else false

/-- `RowHasKey(r)` (R294). -/
def rowHasKey (m : KeyMatrix) (r : Fin 7) : Bool := m[r].toList.any id

/-- `KeyboardLine()` (R305), the flag of the level-triggered source `keyboard`. -/
def keyboardLine (s : State) : Bool := s.kbd.we && rowHasKey s.matrix s.kbd.scanRow

/-- The row/column port is in scan mode (R291). -/
def scanMode (k : Keyboard) : Bool := k.ddrA == Config.kbdDdrScanPattern

/-- Read of `KBD_PORT` (R293). -/
def kbdPortRead (s : State) : Byte :=
  if scanMode s.kbd then
    (s.kbd.ora &&& 0x7F#8) |||
      (if keyDown s.matrix (s.kbd.ora.extractLsb' 4 3).toNat (s.kbd.ora.extractLsb' 0 4).toNat then 0x80#8 else 0x00#8)
  else s.kbd.ora

/-- Write to `KBD_CTRL` (R295): the byte is stored, and the two patterns set and clear write-enable. -/
def kbdCtrlWrite (v : Byte) (s : State) : State :=
  { s with
    kbd := { s.kbd with
      orb := v
      we := if v = s.config.kbdEnablePattern then true
            else if v = s.config.kbdDisablePattern then false
            else s.kbd.we } }

/-- `ScanAdvance()` (R301): the row counter holds on a row with a key down. -/
def scanAdvance (m : KeyMatrix) (r : Fin 7) : Fin 7 := if rowHasKey m r then r else r + 1

/-- `ScanAdvance()` the given number of times. -/
def scanAdvances (m : KeyMatrix) : Nat → Fin 7 → Fin 7
  | 0, r => r
  | k + 1, r => scanAdvances m k (scanAdvance m r)

/-- `DeviceTick(n)` (R300). -/
def deviceTick (n : Nat) (s : State) : State :=
  if s.kbd.we then
    let t := s.kbd.tick + n
    { s with
      kbd := { s.kbd with
        tick := t % s.config.kbdTickInterval
        scanRow := scanAdvances s.matrix (t / s.config.kbdTickInterval) s.kbd.scanRow } }
  else s

/-! ### The interrupt controller -/

/-- Is the flag of an extra source of the given class set (R284, R285)? -/
def extraPending (cls : IntClass) : List ExtraSource → List Bool → Bool
  | e :: es, f :: fs => (e.cls == cls && f) || extraPending cls es fs
  | _, _ => false

/-- Clear the flags of the extra sources that satisfy the predicate (R283). -/
def clearExtra (which : ExtraSource → Bool) : List ExtraSource → List Bool → List Bool
  | e :: es, f :: fs => (f && !which e) :: clearExtra which es fs
  | _, fs => fs

/-- `pending_irq()` (R284). -/
def pendingIrq (s : State) : Bool :=
  keyboardLine s || s.ic.crtc || extraPending .irq s.config.extraSources s.ic.extra

/-- `pending_nmi()` (R285). -/
def pendingNmi (s : State) : Bool :=
  s.ic.nmiExt || extraPending .nmi s.config.extraSources s.ic.extra

/-- `NmiAcknowledge()` (R272): the edge-triggered sources of class nmi are cleared. -/
def nmiAcknowledge (s : State) : State :=
  { s with
    ic := { s.ic with
      nmiExt := false
      extra := clearExtra (fun e => e.cls == .nmi && e.trigger == .edge) s.config.extraSources s.ic.extra } }

/-- Does a write of `v` to `IC_ACK` acknowledge the extra source (R286)? -/
def acknowledges (v : Byte) (e : ExtraSource) : Bool :=
  e.cls == .irq && e.trigger == .edge && (match e.ackBit with | some k => v.getLsbD k | none => false)

/-- Write to `IC_ACK` (R286). -/
def icAckWrite (v : Byte) (s : State) : State :=
  { s with
    ic := { s.ic with
      crtc := s.ic.crtc && !v.getLsbD 1
      extra := clearExtra (acknowledges v) s.config.extraSources s.ic.extra } }

/-- The flag shown in bit `k` of `IC_ACK` by the extra irq sources (R287). -/
def extraBit (k : Nat) : List ExtraSource → List Bool → Bool
  | e :: es, f :: fs => (e.cls == .irq && e.ackBit == some k && f) || extraBit k es fs
  | _, _ => false

/-- Read of `IC_ACK` (R287): bit 0 the keyboard line, bit 1 `crtc`, bits 2 to 6 the extra irq sources, bit 7
`pending_irq()`. -/
def icAckRead (s : State) : Byte :=
  let bit := fun k => (extraBit k s.config.extraSources s.ic.extra).toNat
  BitVec.ofNat 8 ((keyboardLine s).toNat + s.ic.crtc.toNat * 2 + bit 2 * 4 + bit 3 * 8 + bit 4 * 16 + bit 5 * 32 +
    bit 6 * 64 + (pendingIrq s).toNat * 128)

/-! ### The CRTC register file -/

/-- Write to `CRTC_ADDR` (R310). -/
def crtcAddrWrite (v : Byte) (s : State) : State :=
  { s with crtc := { s.crtc with addr := v.setWidth 5 } }

/-- Write to `CRTC_DATA` (R311): ignored when the selected register does not exist. -/
def crtcDataWrite (v : Byte) (s : State) : State :=
  if h : s.crtc.addr.toNat < 18 then
    { s with crtc := { s.crtc with reg := s.crtc.reg.set s.crtc.addr.toNat v } }
  else s

/-- Read of `CRTC_DATA` (R313). -/
def crtcDataRead (s : State) : Byte :=
  if h : s.crtc.addr.toNat < 18 then s.crtc.reg[s.crtc.addr.toNat] else 0x00

/-! ### The host inputs at a boundary -/

/-- The extra sources at a boundary: an edge source latches its event (R282), a level source takes its condition. -/
def deliverExtra : List ExtraSource → List Bool → List Bool → List Bool
  | e :: es, f :: fs, b :: bs => (if e.trigger = .edge then f || b else b) :: deliverExtra es fs bs
  | _, fs, _ => fs

/-- One boundary's host input takes effect (spec/10_state.md R38; R282: asserting a flag that is 1 leaves it 1). -/
def applyInput (h : HostInput) (s : State) : State :=
  { s with
    matrix := h.matrix.getD s.matrix
    ic := { crtc := s.ic.crtc || h.crtcEvent
            nmiExt := s.ic.nmiExt || h.nmiEvent
            extra := deliverExtra s.config.extraSources s.ic.extra h.extra } }

/-- The boundary before a step: the next host input, if the host supplies one, takes effect (log entry 2). -/
def deliverInputs (s : State) : State :=
  match s.inputs with
  | [] => s
  | h :: rest => { applyInput h s with inputs := rest }

end Sys2Proof.Machine
end

