-- ==== Sys2Proof/WellFormed.lean ====
section
/-! DEFINITION. What is well-formed. Every `Instr` is: its operand types hold exactly what the operand bytes
can hold, and "Operand bytes are never illegal" (spec/30_encoding.md R123). What can be ill-formed is a
configuration: a bus map that is not total or has overlaps (spec/20_memory.md R64), equal keyboard patterns
(spec/00_scope.md R6, U4), a tick interval of 0 (R6), extra sources outside R281. -/

namespace Sys2Proof

/-- R123: no instruction is ill-formed. -/
def Instr.WellFormed (_i : Instr) : Prop := True

namespace MapEntry

/-- Does the entry's range hold the address (spec/20_memory.md R63, both ends included)? -/
def contains (e : MapEntry) (a : Addr) : Bool :=
  decide (e.lo.toNat ≤ a.toNat) && decide (a.toNat ≤ e.hi.toNat)

/-- How many addresses the range holds. -/
def size (e : MapEntry) : Nat := e.hi.toNat + 1 - e.lo.toNat

/-- Do two ranges share no address? -/
def disjoint (e f : MapEntry) : Bool :=
  decide (e.hi.toNat < f.lo.toNat) || decide (f.hi.toNat < e.lo.toNat)

end MapEntry

/-- Is the target a peripheral register (R63)? -/
def Target.isRegister : Target → Bool
  | .ram | .rom => false
  | .kbdPort | .kbdDdr | .kbdCtrl | .kbdCtrlDdr | .crtcAddr | .crtcData | .icAck => true

/-- The seven register targets (R63). -/
def Target.registers : List Target :=
  [.kbdPort, .kbdDdr, .kbdCtrl, .kbdCtrlDdr, .crtcAddr, .crtcData, .icAck]

namespace Config

/-- R63: `lo <= hi`, and a register target has `lo = hi`. -/
def rangesWf (m : List MapEntry) : Bool :=
  m.all fun e => decide (e.lo.toNat ≤ e.hi.toNat) && (!e.target.isRegister || e.lo == e.hi)

/-- R64: "non-overlapping". -/
def noOverlap : List MapEntry → Bool
  | [] => true
  | e :: m => (m.all fun f => e.disjoint f) && noOverlap m

/-- R64: "covering the full address space": ranges that do not overlap and together hold 65536 addresses. -/
def total (m : List MapEntry) : Bool :=
  (m.map MapEntry.size).sum == 65536

/-- R64: "Each register target must occur exactly once." -/
def registersOnce (m : List MapEntry) : Bool :=
  Target.registers.all fun t => (m.filter fun e => e.target == t).length == 1

/-- A well-formed `BUS_MAP` (R63, R64). -/
def mapWf (m : List MapEntry) : Bool :=
  rangesWf m && noOverlap m && total m && registersOnce m

/-- An extra source as R281 has it: a bit of `IC_ACK` lies in 2 to 6, and an edge-triggered irq source has one;
which other sources may have one is log entry 10. -/
def extraWf (e : ExtraSource) : Bool :=
  match e.ackBit with
  | some k => decide (2 ≤ k) && decide (k ≤ 6)
  | none => e.cls == .nmi || e.trigger == .level

/-- The bits of `IC_ACK` given to extra irq sources. -/
def extraBits (l : List ExtraSource) : List Nat :=
  (l.filter fun e => e.cls == .irq).filterMap (·.ackBit)

/-- The parameters other than `BUS_MAP` are legal (R6, R281, U4); that no two irq sources share a bit is log entry 10. -/
def paramsWf (c : Config) : Bool :=
  c.kbdEnablePattern != c.kbdDisablePattern && decide (0 < c.kbdTickInterval) &&
    c.extraSources.all extraWf && decide (extraBits c.extraSources).Nodup

/-- A configuration of which a machine can be built. -/
def wf (c : Config) : Bool := mapWf c.busMap && paramsWf c

end Config

end Sys2Proof
end

