-- ==== Sys2Proof/Machine/Ops.lean ====
section
/-! DEFINITION. The named operations over memory, the bus and the stack, and the one operation that takes an exception
with its return: spec/20_memory.md R61 to R71, spec/41_stack.md R160, R161, spec/60_exceptions.md R271,
spec/45_flags_system.md R238, R239. -/

namespace Sys2Proof.Machine

/-- What a meaning answers. -/
abbrev Result := Host.Outcome State Fault Refusal

/-! ### Memory cells -/

/-- The byte of a memory cell; `Memory.unlisted` where there is none. -/
def Memory.read : Memory → Nat → Byte
  | [], _ => Memory.unlisted
  | (k, w) :: m, a => if k = a then w else Memory.read m a

/-- Put a byte at an address, keeping the canonical form. -/
def Memory.write : Memory → Nat → Byte → Memory
  | [], a, v => if v = Memory.unlisted then [] else [(a, v)]
  | (k, w) :: m, a, v =>
    if a < k then (if v = Memory.unlisted then (k, w) :: m else (a, v) :: (k, w) :: m)
    else if a = k then (if v = Memory.unlisted then m else (a, v) :: m)
    else (k, w) :: Memory.write m a v

/-! ### The bus (spec/20_memory.md) -/

/-- The device that answers an address: that of the first entry whose range holds it. In a well-formed map there is
exactly one (R64); an address without an entry, which no built machine has, counts as fallback RAM (log entry 9). -/
def targetOf : List MapEntry → Addr → Target
  | [], _ => .ram
  | e :: m, a => if e.contains a then e.target else targetOf m a

/-- The device that answers an address in this machine. -/
def busTarget (s : State) (a : Addr) : Target := targetOf s.config.busMap a

/-- `MemRead(addr, 1)` (R61, R67 to R69). It changes nothing (R73). -/
def memRead (s : State) (a : Addr) : Byte :=
  match busTarget s a with
  | .ram => s.mem.read a.toNat
  | .rom => s.mem.read a.toNat
  | .kbdPort => kbdPortRead s
  | .kbdDdr => s.kbd.ddrA
  | .kbdCtrl => s.kbd.orb
  | .kbdCtrlDdr => s.kbd.ddrB
  | .crtcAddr => s.crtc.addr.setWidth 8
  | .crtcData => crtcDataRead s
  | .icAck => icAckRead s

/-- `MemWrite(addr, 1, v)` (R62, R67 to R69); a write to ROM is ignored (R68). -/
def memWrite (s : State) (a : Addr) (v : Byte) : State :=
  match busTarget s a with
  | .ram => { s with mem := s.mem.write a.toNat v }
  | .rom => s
  | .kbdPort => { s with kbd := { s.kbd with ora := v } }
  | .kbdDdr => { s with kbd := { s.kbd with ddrA := v } }
  | .kbdCtrl => kbdCtrlWrite v s
  | .kbdCtrlDdr => { s with kbd := { s.kbd with ddrB := v } }
  | .crtcAddr => crtcAddrWrite v s
  | .crtcData => crtcDataWrite v s
  | .icAck => icAckWrite v s

/-- `MemRead16(addr)` (R71). -/
def memRead16 (s : State) (a : Addr) : Addr := wordOf (memRead s (a + 1)) (memRead s a)

/-- `MemRead16ZP(zp)` (R71): the second byte's address wraps inside page $00. -/
def memRead16ZP (s : State) (zp : Byte) : Addr := wordOf (memRead s (zext (zp + 1))) (memRead s (zext zp))

/-! ### The stack (spec/41_stack.md) -/

/-- The address `$0100 + SP`. -/
def stackAddr (sp : Byte) : Addr := wordOf Config.stackPage sp

/-- `Push(v)` (R160): write, then decrement. -/
def push (v : Byte) (s : State) : State := { memWrite s (stackAddr s.sp) v with sp := s.sp - 1 }

/-- The state after `Pull()` (R161): SP incremented. -/
def pulled (s : State) : State := { s with sp := s.sp + 1 }

/-- The byte `Pull()` returns (R161): the one at the incremented SP. -/
def pullByte (s : State) : Byte := memRead (pulled s) (stackAddr (s.sp + 1))

/-- Push a word, high byte first (R160). -/
def pushWord (w : Addr) (s : State) : State := push (loByte w) (push (hiByte w) s)

/-! ### Taking an exception, and returning from one -/

/-- The entry sequence shared by IRQ, NMI (spec/60_exceptions.md R271) and BRK (spec/45_flags_system.md R238): push the
return address, high byte first, and the status byte with break value `b`; set I; load PC from the vector. -/
def takeException (ret : Addr) (b : Bool) (vector : Addr) (s : State) : State :=
  let s1 := pushWord ret s
  let s2 := push (s1.p.toByte b) s1
  let s3 := { s2 with p := { s2.p with i := true } }
  { s3 with pc := memRead16 s3 vector }

/-- `InterruptEntry(kind)` (R271): PC is the address of the instruction not executed; the taking of an NMI
acknowledges it (R272). -/
def interruptEntry (kind : IntClass) (s : State) : State :=
  match kind with
  | .nmi => nmiAcknowledge (takeException s.pc false Config.vecNmi s)
  | .irq => takeException s.pc false Config.vecIrq s

/-- The return from an exception (RTI, spec/45_flags_system.md R239): status, then PC low, then PC high. -/
def returnFromException (s : State) : State :=
  let s1 := { pulled s with p := Flags.ofByte (pullByte s) }
  let s2 := pulled s1
  { pulled s2 with pc := wordOf (pullByte s2) (pullByte s1) }

end Sys2Proof.Machine
end

