-- ==== Sys2Proof/Machine/Operands.lean ====
section
/-! DEFINITION. Operand forms: the effective address of every memory mode (spec/30_encoding.md R107 to R115), the operand of
a read-class instruction (R118), and the target of `JMP (ind)` (R113). -/

namespace Sys2Proof.Machine

/-- A memory operand, by addressing mode. -/
inductive MemOperand where
  | zp (d8 : Byte)
  | zpx (d8 : Byte)
  | zpy (d8 : Byte)
  | abs (a16 : Addr)
  | absx (a16 : Addr)
  | absy (a16 : Addr)
  | indx (d8 : Byte)
  | indy (d8 : Byte)
deriving DecidableEq, Repr

/-- The effective address `ea` of a memory operand (R107 to R112, R114, R115). -/
def ea (s : State) : MemOperand → Addr
  | .zp d8 => zext d8
  | .zpx d8 => zext (d8 + s.x)
  | .zpy d8 => zext (d8 + s.y)
  | .abs a16 => a16
  | .absx a16 => a16 + zext s.x
  | .absy a16 => a16 + zext s.y
  | .indx d8 => memRead16ZP s (d8 + s.x)
  | .indy d8 => memRead16ZP s d8 + zext s.y

/-- The operand byte at a memory operand: `m <- MemRead(ea, 1)` (R118). -/
def readOperand (s : State) (o : MemOperand) : Byte := memRead s (ea s o)

/-- The target of IND (R113), with and without the page wrap. -/
def indirectTarget (s : State) (a16 : Addr) : Addr :=
  let hiAddr := if s.config.jmpIndPageWrap then wordOf (hiByte a16) (loByte a16 + 1) else a16 + 1
  wordOf (memRead s hiAddr) (memRead s a16)

end Sys2Proof.Machine
end

