-- ==== Sys2Proof/Machine/ArithLogic.lean ====
section
/-! DEFINITION. Arithmetic, logic, compare, increment and decrement (spec/42_arith_logic.md). One definition per row of the
opcode table, each over shared operations. They run with PC already past the instruction
(spec/30_encoding.md R101). -/

namespace Sys2Proof.Machine

/-- Write A, C, N, V and Z from an ALU result. -/
def writeAlu (k : AluResult) (s : State) : State :=
  { s with a := k.r, p := { s.p with c := k.c, n := k.n, v := k.v, z := k.z } }

/-- Write A and C from a decimal result whose N, V and Z are draws (R174, R175 under `DECIMAL_NVZ = draw`; log
entry 7): the free values at the present count, and the count advances. -/
def writeDrawn (r : Byte) (c : Bool) (s : State) : State :=
  { s with
    a := r
    p := { s.p with
      c := c
      n := Config.drawN s.freeCount
      v := Config.drawV s.freeCount
      z := Config.drawZ s.freeCount }
    freeCount := s.freeCount + 1 }

/-- ADC (R174). -/
def addWithCarry (m : Byte) (s : State) : State :=
  if s.p.d then
    let k := addDecimal s.a m s.p.c
    match s.config.decimalNvz with
    | .nmos => writeAlu k s
    | .draw => writeDrawn k.r k.c s
  else writeAlu (addBinary s.a m s.p.c) s

/-- SBC (R175): carry and, under `nmos`, N, V, Z are those of the binary difference. -/
def subtractWithBorrow (m : Byte) (s : State) : State :=
  let b := addBinary s.a (m ^^^ 0xFF#8) s.p.c
  if s.p.d then
    let r := subDecimal s.a m s.p.c
    match s.config.decimalNvz with
    | .nmos => writeAlu { b with r := r } s
    | .draw => writeDrawn r b.c s
  else writeAlu b s

/-- AND (R176). -/
def andA (m : Byte) (s : State) : State := setNZ (s.a &&& m) { s with a := s.a &&& m }

/-- ORA (R177). -/
def orA (m : Byte) (s : State) : State := setNZ (s.a ||| m) { s with a := s.a ||| m }

/-- EOR (R178). -/
def eorA (m : Byte) (s : State) : State := setNZ (s.a ^^^ m) { s with a := s.a ^^^ m }

/-- CMP (R180). -/
def compareA (m : Byte) (s : State) : State := { s with p := s.p.compare s.a m }

/-- CPX (R181). -/
def compareX (m : Byte) (s : State) : State := { s with p := s.p.compare s.x m }

/-- CPY (R182). -/
def compareY (m : Byte) (s : State) : State := { s with p := s.p.compare s.y m }

/-- BIT (R183): N and V are bits 7 and 6 of the operand itself. -/
def bitTest (m : Byte) (s : State) : State :=
  { s with p := { s.p with z := (s.a &&& m) == 0, n := m.getLsbD 7, v := m.getLsbD 6 } }

/-- INC (R184): one read, one write, at one address. -/
def increment (o : MemOperand) (s : State) : State :=
  let r := readOperand s o + 1
  setNZ r (memWrite s (ea s o) r)

/-- DEC (R185). -/
def decrement (o : MemOperand) (s : State) : State :=
  let r := readOperand s o - 1
  setNZ r (memWrite s (ea s o) r)

/-- ADC IMM (R174, R106). -/
def execAdcImm (d8 : Byte) (s : State) : Result := .next (addWithCarry d8 s)

/-- ADC ZP (R174, R107). -/
def execAdcZp (d8 : Byte) (s : State) : Result := .next (addWithCarry (readOperand s (.zp d8)) s)

/-- ADC ZPX (R174, R108). -/
def execAdcZpx (d8 : Byte) (s : State) : Result := .next (addWithCarry (readOperand s (.zpx d8)) s)

/-- ADC ABS (R174, R110). -/
def execAdcAbs (a16 : Addr) (s : State) : Result := .next (addWithCarry (readOperand s (.abs a16)) s)

/-- ADC ABSX (R174, R111). -/
def execAdcAbsx (a16 : Addr) (s : State) : Result := .next (addWithCarry (readOperand s (.absx a16)) s)

/-- ADC ABSY (R174, R112). -/
def execAdcAbsy (a16 : Addr) (s : State) : Result := .next (addWithCarry (readOperand s (.absy a16)) s)

/-- ADC INDX (R174, R114). -/
def execAdcIndx (d8 : Byte) (s : State) : Result := .next (addWithCarry (readOperand s (.indx d8)) s)

/-- ADC INDY (R174, R115). -/
def execAdcIndy (d8 : Byte) (s : State) : Result := .next (addWithCarry (readOperand s (.indy d8)) s)

/-- SBC IMM (R175, R106). -/
def execSbcImm (d8 : Byte) (s : State) : Result := .next (subtractWithBorrow d8 s)

/-- SBC ZP (R175, R107). -/
def execSbcZp (d8 : Byte) (s : State) : Result := .next (subtractWithBorrow (readOperand s (.zp d8)) s)

/-- SBC ZPX (R175, R108). -/
def execSbcZpx (d8 : Byte) (s : State) : Result := .next (subtractWithBorrow (readOperand s (.zpx d8)) s)

/-- SBC ABS (R175, R110). -/
def execSbcAbs (a16 : Addr) (s : State) : Result := .next (subtractWithBorrow (readOperand s (.abs a16)) s)

/-- SBC ABSX (R175, R111). -/
def execSbcAbsx (a16 : Addr) (s : State) : Result := .next (subtractWithBorrow (readOperand s (.absx a16)) s)

/-- SBC ABSY (R175, R112). -/
def execSbcAbsy (a16 : Addr) (s : State) : Result := .next (subtractWithBorrow (readOperand s (.absy a16)) s)

/-- SBC INDX (R175, R114). -/
def execSbcIndx (d8 : Byte) (s : State) : Result := .next (subtractWithBorrow (readOperand s (.indx d8)) s)

/-- SBC INDY (R175, R115). -/
def execSbcIndy (d8 : Byte) (s : State) : Result := .next (subtractWithBorrow (readOperand s (.indy d8)) s)

/-- AND IMM (R176, R106). -/
def execAndImm (d8 : Byte) (s : State) : Result := .next (andA d8 s)

/-- AND ZP (R176, R107). -/
def execAndZp (d8 : Byte) (s : State) : Result := .next (andA (readOperand s (.zp d8)) s)

/-- AND ZPX (R176, R108). -/
def execAndZpx (d8 : Byte) (s : State) : Result := .next (andA (readOperand s (.zpx d8)) s)

/-- AND ABS (R176, R110). -/
def execAndAbs (a16 : Addr) (s : State) : Result := .next (andA (readOperand s (.abs a16)) s)

/-- AND ABSX (R176, R111). -/
def execAndAbsx (a16 : Addr) (s : State) : Result := .next (andA (readOperand s (.absx a16)) s)

/-- AND ABSY (R176, R112). -/
def execAndAbsy (a16 : Addr) (s : State) : Result := .next (andA (readOperand s (.absy a16)) s)

/-- AND INDX (R176, R114). -/
def execAndIndx (d8 : Byte) (s : State) : Result := .next (andA (readOperand s (.indx d8)) s)

/-- AND INDY (R176, R115). -/
def execAndIndy (d8 : Byte) (s : State) : Result := .next (andA (readOperand s (.indy d8)) s)

/-- ORA IMM (R177, R106). -/
def execOraImm (d8 : Byte) (s : State) : Result := .next (orA d8 s)

/-- ORA ZP (R177, R107). -/
def execOraZp (d8 : Byte) (s : State) : Result := .next (orA (readOperand s (.zp d8)) s)

/-- ORA ZPX (R177, R108). -/
def execOraZpx (d8 : Byte) (s : State) : Result := .next (orA (readOperand s (.zpx d8)) s)

/-- ORA ABS (R177, R110). -/
def execOraAbs (a16 : Addr) (s : State) : Result := .next (orA (readOperand s (.abs a16)) s)

/-- ORA ABSX (R177, R111). -/
def execOraAbsx (a16 : Addr) (s : State) : Result := .next (orA (readOperand s (.absx a16)) s)

/-- ORA ABSY (R177, R112). -/
def execOraAbsy (a16 : Addr) (s : State) : Result := .next (orA (readOperand s (.absy a16)) s)

/-- ORA INDX (R177, R114). -/
def execOraIndx (d8 : Byte) (s : State) : Result := .next (orA (readOperand s (.indx d8)) s)

/-- ORA INDY (R177, R115). -/
def execOraIndy (d8 : Byte) (s : State) : Result := .next (orA (readOperand s (.indy d8)) s)

/-- EOR IMM (R178, R106). -/
def execEorImm (d8 : Byte) (s : State) : Result := .next (eorA d8 s)

/-- EOR ZP (R178, R107). -/
def execEorZp (d8 : Byte) (s : State) : Result := .next (eorA (readOperand s (.zp d8)) s)

/-- EOR ZPX (R178, R108). -/
def execEorZpx (d8 : Byte) (s : State) : Result := .next (eorA (readOperand s (.zpx d8)) s)

/-- EOR ABS (R178, R110). -/
def execEorAbs (a16 : Addr) (s : State) : Result := .next (eorA (readOperand s (.abs a16)) s)

/-- EOR ABSX (R178, R111). -/
def execEorAbsx (a16 : Addr) (s : State) : Result := .next (eorA (readOperand s (.absx a16)) s)

/-- EOR ABSY (R178, R112). -/
def execEorAbsy (a16 : Addr) (s : State) : Result := .next (eorA (readOperand s (.absy a16)) s)

/-- EOR INDX (R178, R114). -/
def execEorIndx (d8 : Byte) (s : State) : Result := .next (eorA (readOperand s (.indx d8)) s)

/-- EOR INDY (R178, R115). -/
def execEorIndy (d8 : Byte) (s : State) : Result := .next (eorA (readOperand s (.indy d8)) s)

/-- CMP IMM (R180, R106). -/
def execCmpImm (d8 : Byte) (s : State) : Result := .next (compareA d8 s)

/-- CMP ZP (R180, R107). -/
def execCmpZp (d8 : Byte) (s : State) : Result := .next (compareA (readOperand s (.zp d8)) s)

/-- CMP ZPX (R180, R108). -/
def execCmpZpx (d8 : Byte) (s : State) : Result := .next (compareA (readOperand s (.zpx d8)) s)

/-- CMP ABS (R180, R110). -/
def execCmpAbs (a16 : Addr) (s : State) : Result := .next (compareA (readOperand s (.abs a16)) s)

/-- CMP ABSX (R180, R111). -/
def execCmpAbsx (a16 : Addr) (s : State) : Result := .next (compareA (readOperand s (.absx a16)) s)

/-- CMP ABSY (R180, R112). -/
def execCmpAbsy (a16 : Addr) (s : State) : Result := .next (compareA (readOperand s (.absy a16)) s)

/-- CMP INDX (R180, R114). -/
def execCmpIndx (d8 : Byte) (s : State) : Result := .next (compareA (readOperand s (.indx d8)) s)

/-- CMP INDY (R180, R115). -/
def execCmpIndy (d8 : Byte) (s : State) : Result := .next (compareA (readOperand s (.indy d8)) s)

/-- CPX IMM (R181, R106). -/
def execCpxImm (d8 : Byte) (s : State) : Result := .next (compareX d8 s)

/-- CPX ZP (R181, R107). -/
def execCpxZp (d8 : Byte) (s : State) : Result := .next (compareX (readOperand s (.zp d8)) s)

/-- CPX ABS (R181, R110). -/
def execCpxAbs (a16 : Addr) (s : State) : Result := .next (compareX (readOperand s (.abs a16)) s)

/-- CPY IMM (R182, R106). -/
def execCpyImm (d8 : Byte) (s : State) : Result := .next (compareY d8 s)

/-- CPY ZP (R182, R107). -/
def execCpyZp (d8 : Byte) (s : State) : Result := .next (compareY (readOperand s (.zp d8)) s)

/-- CPY ABS (R182, R110). -/
def execCpyAbs (a16 : Addr) (s : State) : Result := .next (compareY (readOperand s (.abs a16)) s)

/-- BIT ZP (R183, R107). -/
def execBitZp (d8 : Byte) (s : State) : Result := .next (bitTest (readOperand s (.zp d8)) s)

/-- BIT ABS (R183, R110). -/
def execBitAbs (a16 : Addr) (s : State) : Result := .next (bitTest (readOperand s (.abs a16)) s)

/-- INC ZP (R184, R107). -/
def execIncZp (d8 : Byte) (s : State) : Result := .next (increment (.zp d8) s)

/-- INC ZPX (R184, R108). -/
def execIncZpx (d8 : Byte) (s : State) : Result := .next (increment (.zpx d8) s)

/-- INC ABS (R184, R110). -/
def execIncAbs (a16 : Addr) (s : State) : Result := .next (increment (.abs a16) s)

/-- INC ABSX (R184, R111). -/
def execIncAbsx (a16 : Addr) (s : State) : Result := .next (increment (.absx a16) s)

/-- DEC ZP (R185, R107). -/
def execDecZp (d8 : Byte) (s : State) : Result := .next (decrement (.zp d8) s)

/-- DEC ZPX (R185, R108). -/
def execDecZpx (d8 : Byte) (s : State) : Result := .next (decrement (.zpx d8) s)

/-- DEC ABS (R185, R110). -/
def execDecAbs (a16 : Addr) (s : State) : Result := .next (decrement (.abs a16) s)

/-- DEC ABSX (R185, R111). -/
def execDecAbsx (a16 : Addr) (s : State) : Result := .next (decrement (.absx a16) s)

/-- INX (R186): `X <- X + 1; SetNZ(X)`. -/
def execInx (s : State) : Result := .next (setNZ (s.x + 1) { s with x := s.x + 1 })

/-- INY (R187): `Y <- Y + 1; SetNZ(Y)`. -/
def execIny (s : State) : Result := .next (setNZ (s.y + 1) { s with y := s.y + 1 })

/-- DEX (R188): `X <- X - 1; SetNZ(X)`. -/
def execDex (s : State) : Result := .next (setNZ (s.x - 1) { s with x := s.x - 1 })

/-- DEY (R189): `Y <- Y - 1; SetNZ(Y)`. -/
def execDey (s : State) : Result := .next (setNZ (s.y - 1) { s with y := s.y - 1 })

end Sys2Proof.Machine
end

