-- ==== Sys2Proof/Machine/ControlFlow.lean ====
section
/-! DEFINITION. Jumps, subroutine call and return, conditional branches (spec/44_control_flow.md). One definition per row of the
opcode table, each over shared operations. They run with PC already past the instruction
(spec/30_encoding.md R101). -/

namespace Sys2Proof.Machine

/-- JSR (R212): push the address of the JSR's last byte, then jump. -/
def jumpToSubroutine (target : Addr) (s : State) : State :=
  { pushWord (s.pc - 1) s with pc := target }

/-- RTS (R213): pull low, pull high, plus one. -/
def returnFromSubroutine (s : State) : State :=
  let s1 := pulled s
  { pulled s1 with pc := wordOf (pullByte s1) (pullByte s) + 1 }

/-- `Branch(cond)` (R214), PC already past the branch. -/
def branch (cond : BranchCond) (rel : Byte) (s : State) : State :=
  if branchHolds s.p cond then { s with pc := s.pc + sext rel } else s

/-- JMP ABS (R211, R110). -/
def execJmpAbs (a16 : Addr) (s : State) : Result := .next { s with pc := a16 }

/-- JMP IND (R211, R113). -/
def execJmpInd (a16 : Addr) (s : State) : Result := .next { s with pc := indirectTarget s a16 }

/-- JSR ABS (R212, R110). -/
def execJsr (a16 : Addr) (s : State) : Result := .next (jumpToSubroutine a16 s)

/-- RTS (R213): pull a word, plus one. -/
def execRts (s : State) : Result := .next (returnFromSubroutine s)

/-- BCC REL (R215, R116). -/
def execBcc (rel : Byte) (s : State) : Result := .next (branch .cc rel s)

/-- BCS REL (R216, R116). -/
def execBcs (rel : Byte) (s : State) : Result := .next (branch .cs rel s)

/-- BEQ REL (R217, R116). -/
def execBeq (rel : Byte) (s : State) : Result := .next (branch .eq rel s)

/-- BNE REL (R218, R116). -/
def execBne (rel : Byte) (s : State) : Result := .next (branch .ne rel s)

/-- BMI REL (R219, R116). -/
def execBmi (rel : Byte) (s : State) : Result := .next (branch .mi rel s)

/-- BPL REL (R220, R116). -/
def execBpl (rel : Byte) (s : State) : Result := .next (branch .pl rel s)

/-- BVC REL (R221, R116). -/
def execBvc (rel : Byte) (s : State) : Result := .next (branch .vc rel s)

/-- BVS REL (R222, R116). -/
def execBvs (rel : Byte) (s : State) : Result := .next (branch .vs rel s)

end Sys2Proof.Machine
end

