-- ==== Sys2Proof/Machine/FlagsSystem.lean ====
section
/-! DEFINITION. Flag instructions, NOP, BRK and RTI (spec/45_flags_system.md). One definition per row of the
opcode table, each over shared operations. They run with PC already past the instruction
(spec/30_encoding.md R101). -/

namespace Sys2Proof.Machine

/-- CLC (R231): `P.C <- 0`. -/
def execClc (s : State) : Result := .next { s with p := { s.p with c := false } }

/-- SEC (R232): `P.C <- 1`. -/
def execSec (s : State) : Result := .next { s with p := { s.p with c := true } }

/-- CLI (R233): `P.I <- 0`. -/
def execCli (s : State) : Result := .next { s with p := { s.p with i := false } }

/-- SEI (R234): `P.I <- 1`. -/
def execSei (s : State) : Result := .next { s with p := { s.p with i := true } }

/-- CLD (R235): `P.D <- 0`. -/
def execCld (s : State) : Result := .next { s with p := { s.p with d := false } }

/-- SED (R236): `P.D <- 1`. -/
def execSed (s : State) : Result := .next { s with p := { s.p with d := true } }

/-- CLV (R237): `P.V <- 0`. -/
def execClv (s : State) : Result := .next { s with p := { s.p with v := false } }

/-- NOP (R240): nothing. -/
def execNop (s : State) : Result := .next s

/-- BRK (R238): the shared entry with break bit 1, the byte after BRK skipped. -/
def execBrk (s : State) : Result := .next (takeException (s.pc + 1) true Config.vecIrq s)

/-- RTI (R239): the shared return. -/
def execRti (s : State) : Result := .next (returnFromException s)

end Sys2Proof.Machine
end

