-- ==== Sys2Proof/Machine/LoadStore.lean ====
section
/-! DEFINITION. Loads, stores and register transfers (spec/40_load_store_transfer.md). One definition per row of the
opcode table, each over shared operations. They run with PC already past the instruction
(spec/30_encoding.md R101). -/

namespace Sys2Proof.Machine

/-- `A <- m; SetNZ(A)` (R141). -/
def loadA (m : Byte) (s : State) : State := setNZ m { s with a := m }

/-- `X <- m; SetNZ(X)` (R142). -/
def loadX (m : Byte) (s : State) : State := setNZ m { s with x := m }

/-- `Y <- m; SetNZ(Y)` (R143). -/
def loadY (m : Byte) (s : State) : State := setNZ m { s with y := m }

/-- `MemWrite(ea, 1, v)`: write class, `ea` is not read (R118, R144 to R146). -/
def storeAt (o : MemOperand) (v : Byte) (s : State) : State := memWrite s (ea s o) v

/-- A transfer to A sets N and Z (R149, R150). -/
def transferToA (v : Byte) (s : State) : State := setNZ v { s with a := v }

/-- A transfer to X sets N and Z (R147, R151). -/
def transferToX (v : Byte) (s : State) : State := setNZ v { s with x := v }

/-- A transfer to Y sets N and Z (R148). -/
def transferToY (v : Byte) (s : State) : State := setNZ v { s with y := v }

/-- LDA IMM (R141, R106). -/
def execLdaImm (d8 : Byte) (s : State) : Result := .next (loadA d8 s)

/-- LDA ZP (R141, R107). -/
def execLdaZp (d8 : Byte) (s : State) : Result := .next (loadA (readOperand s (.zp d8)) s)

/-- LDA ZPX (R141, R108). -/
def execLdaZpx (d8 : Byte) (s : State) : Result := .next (loadA (readOperand s (.zpx d8)) s)

/-- LDA ABS (R141, R110). -/
def execLdaAbs (a16 : Addr) (s : State) : Result := .next (loadA (readOperand s (.abs a16)) s)

/-- LDA ABSX (R141, R111). -/
def execLdaAbsx (a16 : Addr) (s : State) : Result := .next (loadA (readOperand s (.absx a16)) s)

/-- LDA ABSY (R141, R112). -/
def execLdaAbsy (a16 : Addr) (s : State) : Result := .next (loadA (readOperand s (.absy a16)) s)

/-- LDA INDX (R141, R114). -/
def execLdaIndx (d8 : Byte) (s : State) : Result := .next (loadA (readOperand s (.indx d8)) s)

/-- LDA INDY (R141, R115). -/
def execLdaIndy (d8 : Byte) (s : State) : Result := .next (loadA (readOperand s (.indy d8)) s)

/-- LDX IMM (R142, R106). -/
def execLdxImm (d8 : Byte) (s : State) : Result := .next (loadX d8 s)

/-- LDX ZP (R142, R107). -/
def execLdxZp (d8 : Byte) (s : State) : Result := .next (loadX (readOperand s (.zp d8)) s)

/-- LDX ZPY (R142, R109). -/
def execLdxZpy (d8 : Byte) (s : State) : Result := .next (loadX (readOperand s (.zpy d8)) s)

/-- LDX ABS (R142, R110). -/
def execLdxAbs (a16 : Addr) (s : State) : Result := .next (loadX (readOperand s (.abs a16)) s)

/-- LDX ABSY (R142, R112). -/
def execLdxAbsy (a16 : Addr) (s : State) : Result := .next (loadX (readOperand s (.absy a16)) s)

/-- LDY IMM (R143, R106). -/
def execLdyImm (d8 : Byte) (s : State) : Result := .next (loadY d8 s)

/-- LDY ZP (R143, R107). -/
def execLdyZp (d8 : Byte) (s : State) : Result := .next (loadY (readOperand s (.zp d8)) s)

/-- LDY ZPX (R143, R108). -/
def execLdyZpx (d8 : Byte) (s : State) : Result := .next (loadY (readOperand s (.zpx d8)) s)

/-- LDY ABS (R143, R110). -/
def execLdyAbs (a16 : Addr) (s : State) : Result := .next (loadY (readOperand s (.abs a16)) s)

/-- LDY ABSX (R143, R111). -/
def execLdyAbsx (a16 : Addr) (s : State) : Result := .next (loadY (readOperand s (.absx a16)) s)

/-- STA ZP (R144, R107). -/
def execStaZp (d8 : Byte) (s : State) : Result := .next (storeAt (.zp d8) s.a s)

/-- STA ZPX (R144, R108). -/
def execStaZpx (d8 : Byte) (s : State) : Result := .next (storeAt (.zpx d8) s.a s)

/-- STA ABS (R144, R110). -/
def execStaAbs (a16 : Addr) (s : State) : Result := .next (storeAt (.abs a16) s.a s)

/-- STA ABSX (R144, R111). -/
def execStaAbsx (a16 : Addr) (s : State) : Result := .next (storeAt (.absx a16) s.a s)

/-- STA ABSY (R144, R112). -/
def execStaAbsy (a16 : Addr) (s : State) : Result := .next (storeAt (.absy a16) s.a s)

/-- STA INDX (R144, R114). -/
def execStaIndx (d8 : Byte) (s : State) : Result := .next (storeAt (.indx d8) s.a s)

/-- STA INDY (R144, R115). -/
def execStaIndy (d8 : Byte) (s : State) : Result := .next (storeAt (.indy d8) s.a s)

/-- STX ZP (R145, R107). -/
def execStxZp (d8 : Byte) (s : State) : Result := .next (storeAt (.zp d8) s.x s)

/-- STX ZPY (R145, R109). -/
def execStxZpy (d8 : Byte) (s : State) : Result := .next (storeAt (.zpy d8) s.x s)

/-- STX ABS (R145, R110). -/
def execStxAbs (a16 : Addr) (s : State) : Result := .next (storeAt (.abs a16) s.x s)

/-- STY ZP (R146, R107). -/
def execStyZp (d8 : Byte) (s : State) : Result := .next (storeAt (.zp d8) s.y s)

/-- STY ZPX (R146, R108). -/
def execStyZpx (d8 : Byte) (s : State) : Result := .next (storeAt (.zpx d8) s.y s)

/-- STY ABS (R146, R110). -/
def execStyAbs (a16 : Addr) (s : State) : Result := .next (storeAt (.abs a16) s.y s)

/-- TAX (R147): `X <- A; SetNZ(X)`. -/
def execTax (s : State) : Result := .next (transferToX s.a s)

/-- TAY (R148): `Y <- A; SetNZ(Y)`. -/
def execTay (s : State) : Result := .next (transferToY s.a s)

/-- TXA (R149): `A <- X; SetNZ(A)`. -/
def execTxa (s : State) : Result := .next (transferToA s.x s)

/-- TYA (R150): `A <- Y; SetNZ(A)`. -/
def execTya (s : State) : Result := .next (transferToA s.y s)

/-- TSX (R151): `X <- SP; SetNZ(X)`. -/
def execTsx (s : State) : Result := .next (transferToX s.sp s)

/-- TXS (R152): `SP <- X`, no flag. -/
def execTxs (s : State) : Result := .next { s with sp := s.x }

end Sys2Proof.Machine
end

