-- ==== Sys2Proof/Machine/ShiftRotate.lean ====
section
/-! DEFINITION. Shifts and rotates (spec/43_shift_rotate.md). One definition per row of the
opcode table, each over shared operations. They run with PC already past the instruction
(spec/30_encoding.md R101). -/

namespace Sys2Proof.Machine

/-- Carry from the bit shifted out, N and Z from the result (R201 to R204). -/
def setShiftFlags (k : Byte × Bool) (s : State) : State :=
  { s with p := { s.p.withNZ k.1 with c := k.2 } }

/-- The accumulator form (R200): `src` and `dst` are A. -/
def shiftA (f : ShiftOp) (s : State) : State :=
  let k := f s.a s.p.c
  setShiftFlags k { s with a := k.1 }

/-- A memory form (R200): one read, then one write, at the same address; A is not changed. -/
def shiftAt (f : ShiftOp) (o : MemOperand) (s : State) : State :=
  let k := f (readOperand s o) s.p.c
  setShiftFlags k (memWrite s (ea s o) k.1)

/-- ASL ACC (R201, R105). -/
def execAslAcc (s : State) : Result := .next (shiftA aslOp s)

/-- ASL ZP (R201, R107). -/
def execAslZp (d8 : Byte) (s : State) : Result := .next (shiftAt aslOp (.zp d8) s)

/-- ASL ZPX (R201, R108). -/
def execAslZpx (d8 : Byte) (s : State) : Result := .next (shiftAt aslOp (.zpx d8) s)

/-- ASL ABS (R201, R110). -/
def execAslAbs (a16 : Addr) (s : State) : Result := .next (shiftAt aslOp (.abs a16) s)

/-- ASL ABSX (R201, R111). -/
def execAslAbsx (a16 : Addr) (s : State) : Result := .next (shiftAt aslOp (.absx a16) s)

/-- LSR ACC (R202, R105). -/
def execLsrAcc (s : State) : Result := .next (shiftA lsrOp s)

/-- LSR ZP (R202, R107). -/
def execLsrZp (d8 : Byte) (s : State) : Result := .next (shiftAt lsrOp (.zp d8) s)

/-- LSR ZPX (R202, R108). -/
def execLsrZpx (d8 : Byte) (s : State) : Result := .next (shiftAt lsrOp (.zpx d8) s)

/-- LSR ABS (R202, R110). -/
def execLsrAbs (a16 : Addr) (s : State) : Result := .next (shiftAt lsrOp (.abs a16) s)

/-- LSR ABSX (R202, R111). -/
def execLsrAbsx (a16 : Addr) (s : State) : Result := .next (shiftAt lsrOp (.absx a16) s)

/-- ROL ACC (R203, R105). -/
def execRolAcc (s : State) : Result := .next (shiftA rolOp s)

/-- ROL ZP (R203, R107). -/
def execRolZp (d8 : Byte) (s : State) : Result := .next (shiftAt rolOp (.zp d8) s)

/-- ROL ZPX (R203, R108). -/
def execRolZpx (d8 : Byte) (s : State) : Result := .next (shiftAt rolOp (.zpx d8) s)

/-- ROL ABS (R203, R110). -/
def execRolAbs (a16 : Addr) (s : State) : Result := .next (shiftAt rolOp (.abs a16) s)

/-- ROL ABSX (R203, R111). -/
def execRolAbsx (a16 : Addr) (s : State) : Result := .next (shiftAt rolOp (.absx a16) s)

/-- ROR ACC (R204, R105). -/
def execRorAcc (s : State) : Result := .next (shiftA rorOp s)

/-- ROR ZP (R204, R107). -/
def execRorZp (d8 : Byte) (s : State) : Result := .next (shiftAt rorOp (.zp d8) s)

/-- ROR ZPX (R204, R108). -/
def execRorZpx (d8 : Byte) (s : State) : Result := .next (shiftAt rorOp (.zpx d8) s)

/-- ROR ABS (R204, R110). -/
def execRorAbs (a16 : Addr) (s : State) : Result := .next (shiftAt rorOp (.abs a16) s)

/-- ROR ABSX (R204, R111). -/
def execRorAbsx (a16 : Addr) (s : State) : Result := .next (shiftAt rorOp (.absx a16) s)

end Sys2Proof.Machine
end

