-- ==== Sys2Proof/Machine/Stack.lean ====
section
/-! DEFINITION. The stack instructions (spec/41_stack.md). One definition per row of the
opcode table, each over shared operations. They run with PC already past the instruction
(spec/30_encoding.md R101). -/

namespace Sys2Proof.Machine

/-- PHA (R162): `Push(A)`. -/
def execPha (s : State) : Result := .next (push s.a s)

/-- PHP (R163): `Push(PByte(1))`. -/
def execPhp (s : State) : Result := .next (push (s.p.toByte true) s)

/-- PLA (R164): `A <- Pull(); SetNZ(A)`. -/
def execPla (s : State) : Result := .next (setNZ (pullByte s) { pulled s with a := pullByte s })

/-- PLP (R165): the six flags from `Pull()`. -/
def execPlp (s : State) : Result := .next { pulled s with p := Flags.ofByte (pullByte s) }

end Sys2Proof.Machine
end

