-- ==== Sys2Proof/Machine/Fetch.lean ====
section
/-! DEFINITION. Fetching the bytes of one instruction (spec/30_encoding.md R101, R121) and storing bytes where they will be
fetched. -/

namespace Sys2Proof.Machine

/-- The bytes at PC that one step fetches: the opcode, then as many operand bytes as its row has, at rising addresses
modulo 65536; of an undefined opcode, the opcode alone (R101). -/
def fetchBytes (s : State) : List Byte :=
  (List.range (lengthOf (memRead s s.pc))).map fun k => memRead s (s.pc + BitVec.ofNat 16 k)

/-- Fetch and decode the instruction at PC. -/
def fetch (s : State) : Except DecodeError Instr :=
  match decode (fetchBytes s) with
  | .ok (i, _) => .ok i
  | .error e => .error e

/-- The host loads a byte of a memory image (spec/70_reset_and_hazards.md R346): into the RAM or ROM cell of the
address; an address of a register has no cell to load (log entry 11). -/
def loadByte (s : State) (a : Addr) (v : Byte) : State :=
  match busTarget s a with
  | .ram | .rom => { s with mem := s.mem.write a.toNat v }
  | .kbdPort | .kbdDdr | .kbdCtrl | .kbdCtrlDdr | .crtcAddr | .crtcData | .icAck => s

/-- The host loads bytes at rising addresses modulo 65536. -/
def loadBytes : List Byte → Addr → State → State
  | [], _, s => s
  | v :: vs, a, s => loadBytes vs (a + 1) (loadByte s a v)

/-- Is the address backed by a RAM or ROM cell? -/
def isMemory (s : State) (a : Addr) : Bool :=
  match busTarget s a with
  | .ram | .rom => true
  | .kbdPort | .kbdDdr | .kbdCtrl | .kbdCtrlDdr | .crtcAddr | .crtcData | .icAck => false

/-- Where `placeInstruction` puts an instruction: at PC when the three addresses from PC are memory cells, else at
$0200 (log entry 8). -/
def placeAddr (s : State) : Addr :=
  if isMemory s s.pc && isMemory s (s.pc + 1) && isMemory s (s.pc + 2) then s.pc else 0x0200

/-- The state whose next step fetches the given bytes and takes no interrupt instead: the bytes loaded at PC, no
latched fault, no NMI pending, no host input at the coming boundary, and maskable interrupts deferred if one is
pending. Everything that needs no change is left as it is (log entry 8). -/
def placeInstruction (bytes : List Byte) (s : State) : State :=
  let s1 := { s with
    pc := placeAddr s
    halted := none
    inputs := match s.inputs with | [] => [] | l => {} :: l
    ic := { s.ic with
      nmiExt := false
      extra := clearExtra (fun e => e.cls == .nmi) s.config.extraSources s.ic.extra }
    p := { s.p with i := s.p.i || pendingIrq s } }
  loadBytes bytes s1.pc s1

end Sys2Proof.Machine
end

