-- ==== Sys2Proof/Machine/Timing.lean ====
section
/-! DEFINITION. The cycle count of an instruction (spec/70_reset_and_hazards.md R360): its row's base count, one more when a
read-class indexed address crosses a page (spec/30_encoding.md R117), and for a branch one more when taken, two when
taken to another page (spec/44_control_flow.md R214). It is a function of the state in which the instruction executes:
PC already advanced, nothing of the instruction done. -/

namespace Sys2Proof.Machine

/-- The high byte of the indexed address differs from that of the unindexed one (R117). -/
def crossesPage (base : Addr) (index : Byte) : Bool := hiByte (base + zext index) != hiByte base

/-- Does the indexed address of the instruction cross a page (R111, R112, R115)? -/
def operandCrosses (s : State) : Mode → List Byte → Bool
  | .absx, [lo, hi] => crossesPage (wordOf hi lo) s.x
  | .absy, [lo, hi] => crossesPage (wordOf hi lo) s.y
  | .indy, [d8] => crossesPage (memRead16ZP s d8) s.y
  | _, _ => false

/-- The cycles a branch takes: 2 not taken, 3 taken in the page, 4 taken to another page (R360). -/
def branchCycles (s : State) (cond : BranchCond) (base : Nat) : List Byte → Nat
  | [rel] =>
    if branchHolds s.p cond then
      (if hiByte s.pc = hiByte (s.pc + sext rel) then base + 1 else base + 2)
    else base
  | _ => base

/-- The cycle count of a row of the opcode table with the given operand bytes. -/
def rowCycles (s : State) (r : OpRow) (operands : List Byte) : Nat :=
  match r.timing with
  | .fixed => r.cycles
  | .pageCross => if operandCrosses s r.mode operands then r.cycles + 1 else r.cycles
  | .branch cond => branchCycles s cond r.cycles operands

/-- The cycles an instruction consumes (R101, R360). -/
def cyclesOf (i : Instr) (s : State) : Nat :=
  match findRow i.opcode with
  | some r => rowCycles s r i.operands
  | none => 0

end Sys2Proof.Machine
end

