-- ==== Sys2Proof/Machine/Execute.lean ====
section
/-! DEFINITION. The phases of `step()` around exec: the end of a step that did not fault, and `ExecuteOne()`
(spec/30_encoding.md R100, R101; spec/60_exceptions.md R261). -/

namespace Sys2Proof.Machine

/-- The end of a step (R100): `cycles <- cycles + n; DeviceTick(n)`. -/
def finishStep (n : Nat) (s : State) : State := deviceTick n { s with cycles := s.cycles + n }

/-- PC past the instruction, the state its rule is written for (R101). -/
def advance (i : Instr) (s : State) : State := { s with pc := s.pc + BitVec.ofNat 16 i.length }

/-- `raise IllegalOpcode(a, op)` (R261): the fault, with the state it leaves. -/
def raiseIllegal (s : State) : Result :=
  let op := memRead s s.pc
  .fault (.illegalOpcode s.pc op { s with halted := some { addr := s.pc, opcode := op } })

/-- Execute a decoded instruction to the end of the step (R100, R101). -/
def runInstr (i : Instr) (s : State) : Result :=
  match exec i (advance i s) with
  | .next t => .next (finishStep (cyclesOf i (advance i s)) t)
  | .fault f => .fault f
  | .refused r => .refused r

/-- `ExecuteOne()` (R101), with the end of the step. -/
def executeOne (s : State) : Result :=
  match fetch s with
  | .ok i => runInstr i s
  | .error _ => raiseIllegal s

/-- A step at a boundary whose host inputs have taken effect, of a machine that is not halted (R100, R270, R273). -/
def stepBoundary (s : State) : Result :=
  if pendingNmi s then .next (finishStep Config.intEntryCycles (interruptEntry .nmi s))
  else if pendingIrq s && !s.p.i then .next (finishStep Config.intEntryCycles (interruptEntry .irq s))
  else executeOne s

end Sys2Proof.Machine
end

