-- ==== Sys2Proof/Machine/Step.lean ====
section
/-! DEFINITION. One call of `step()` (spec/30_encoding.md R100). -/

namespace Sys2Proof.Machine

/-- `step()` (R100): refused while halted (spec/60_exceptions.md R262); otherwise the host's inputs at the boundary take
effect (spec/10_state.md R38; log entry 2), and then an NMI entry, an IRQ entry, or one instruction. -/
def step (s : State) : Host.Outcome State Fault Refusal :=
  match s.halted with
  | some info => .refused (.halted info)
  | none => stepBoundary (deliverInputs s)

/-- The state with an instruction word of the opcode table stored where `step` fetches next (log entry 8). -/
def State.withFetchWord (s : State) (nbits w : Nat) : State := placeInstruction (tableBytes nbits w) s

end Sys2Proof.Machine
end

