-- ==== Sys2Proof/Machine/Reset.lean ====
section
/-! DEFINITION. What the host does to a stopped machine: build it from a configuration, load a memory image, reset it, set
PC (spec/20_memory.md R64, spec/70_reset_and_hazards.md R340 to R346). -/

namespace Sys2Proof.Machine

/-- The draws of a reset (spec/10_state.md R40, `RESET_REGS`): the values of A, X, Y, SP and of N, V, D, Z, C. -/
structure ResetDraws where
  a : Byte
  x : Byte
  y : Byte
  sp : Byte
  n : Bool
  v : Bool
  d : Bool
  z : Bool
  c : Bool
deriving DecidableEq, Repr

/-- The values the model names for the draws of a reset (log entry 3). -/
def ResetDraws.named : ResetDraws :=
  { a := 0x00, x := 0x00, y := 0x00, sp := 0x00, n := false, v := false, d := false, z := false, c := false }

/-- `reset()` (R340, R341, with the table of R40), for any draws: memory is kept, nothing is pushed, PC comes from the
reset vector, the devices take their reset values. The host's inputs are not read and stay (log entry 12). -/
def hostReset (w : ResetDraws) (s : State) : State :=
  let t : State := { s with
    a := w.a
    x := w.x
    y := w.y
    sp := w.sp
    p := { n := w.n, v := w.v, d := w.d, i := true, z := w.z, c := w.c }
    halted := none
    cycles := 0
    ic := { crtc := false
            nmiExt := false
            extra := clearExtra (fun e => e.trigger == Trigger.edge) s.config.extraSources s.ic.extra }
    kbd := Keyboard.reset
    crtc := Crtc.reset }
  { t with pc := memRead16 t Config.vecReset }

/-- The host sets PC before the first step (R342). -/
def setPc (a : Addr) (s : State) : State := { s with pc := a }

/-- The host loads a memory image, cell by cell (R346). -/
def loadImage : List Host.Cell → State → State
  | [], s => s
  | (a, v) :: image, s => loadImage image (loadByte s (BitVec.ofNat 16 a) v)

/-- Why no machine is built. -/
inductive BuildError where
  /-- `UnmappedAddress`: the bus map has a hole (R64) or an overlap (spec/90_conflicts.md C6); DESIGN CHOICE, unsafe: also
  a range with `lo > hi`, a register wider than one address, a register missing or twice (log entry 15) -/
  | unmappedAddress
  /-- another parameter is not legal (spec/00_scope.md R6, U4; R281, log entry 10); the error's name is the model's (log
  entry 15) -/
  | badParameter
deriving DecidableEq, Repr

/-- The machine as it is built, before its first reset: no memory image, no host input (log entries 2 and 4). The
condition of a level-triggered extra source that the host has not yet supplied is false: DESIGN CHOICE, unsafe (log
entry 10). -/
def blank (c : Config) : State :=
  { State.reset with
    config := c
    ic := { InterruptController.reset with extra := c.extraSources.map fun _ => false } }

/-- Build a machine: refuse an ill-formed configuration (R64, U4, U8), load the image, and reset, which "is the first
thing that happens to a newly built machine" (R340). R64 gives the error's name for a hole and conflict C6 for an overlap;
for the other ill-formed maps, and for the other parameters, which error answers is the model's choice (log entry 15). -/
def build (c : Config) (image : List Host.Cell) (w : ResetDraws) : Except BuildError State :=
  if !Config.mapWf c.busMap then .error .unmappedAddress
  else if !c.paramsWf then .error .badParameter
  else .ok (hostReset w (loadImage image (blank c)))

/-! ### The bus map of given register addresses

With all seven in page $FE this is the table of spec/20_memory.md R66. For an address elsewhere the table's RAM and ROM
rows would overlap the register, and the spec is silent: that the register then comes out of the range is DESIGN CHOICE,
unsafe (log entry 14). -/

/-- The seven register addresses (spec/00_scope.md R6). -/
structure RegisterAddrs where
  kbdPort : Addr := 0xFE4F
  kbdDdr : Addr := 0xFE43
  kbdCtrl : Addr := 0xFE40
  kbdCtrlDdr : Addr := 0xFE42
  icAck : Addr := 0xFE4D
  crtcAddr : Addr := 0xFE00
  crtcData : Addr := 0xFE01
deriving DecidableEq, Repr

/-- Insert a register entry in the order of addresses. -/
def insertEntry (e : MapEntry) : List MapEntry → List MapEntry
  | [] => [e]
  | f :: m => if e.lo.toNat ≤ f.lo.toNat then e :: f :: m else f :: insertEntry e m

/-- The register entries in the order of addresses. -/
def RegisterAddrs.entries (r : RegisterAddrs) : List MapEntry :=
  [ ⟨r.kbdPort, r.kbdPort, .kbdPort⟩, ⟨r.kbdDdr, r.kbdDdr, .kbdDdr⟩, ⟨r.kbdCtrl, r.kbdCtrl, .kbdCtrl⟩,
    ⟨r.kbdCtrlDdr, r.kbdCtrlDdr, .kbdCtrlDdr⟩, ⟨r.icAck, r.icAck, .icAck⟩, ⟨r.crtcAddr, r.crtcAddr, .crtcAddr⟩,
    ⟨r.crtcData, r.crtcData, .crtcData⟩ ].foldr insertEntry []

/-- The addresses `lo` to `hi` given to a memory device, but for the registers that lie among them. R66 has it so in page
$FE; in the other ranges it is the model's choice (log entry 14). -/
def carve (t : Target) (hi : Nat) : Nat → List MapEntry → List MapEntry
  | lo, [] => if lo ≤ hi then [⟨BitVec.ofNat 16 lo, BitVec.ofNat 16 hi, t⟩] else []
  | lo, e :: m =>
    let a := e.lo.toNat
    if a < lo ∨ hi < a then carve t hi lo m
    else (if lo < a then [⟨BitVec.ofNat 16 lo, BitVec.ofNat 16 (a - 1), t⟩] else []) ++ e :: carve t hi (a + 1) m

/-- The map of spec/20_memory.md R66 with the registers at the given addresses of page $FE; a register outside that page is
cut out of the RAM or ROM range it falls in, the model's choice (log entry 14). -/
def mapWithRegisters (r : RegisterAddrs) : List MapEntry :=
  carve .ram 0x7FFF 0x0000 r.entries ++ carve .rom 0xFDFF 0x8000 r.entries ++ carve .ram 0xFEFF 0xFE00 r.entries ++
    carve .rom 0xFFFF 0xFF00 r.entries

end Sys2Proof.Machine
end

