-- ==== Sys2Proof/Machine/Trace.lean ====
section
/-! DEFINITION. The step record (spec/30_encoding.md R126, spec/60_exceptions.md R333): an output for observation only, computed from the state before a step; nothing in the machine reads it. -/

namespace Sys2Proof.Machine

/-- The record of one step: address, mnemonic (or `IRQ`, `NMI`), operand bytes, and the registers after the step, P as
`PByte(1)`. -/
structure StepRecord where
  addr : Addr
  mnemonic : String
  operands : List Byte
  a : Byte
  x : Byte
  y : Byte
  sp : Byte
  pc : Addr
  p : Byte
deriving DecidableEq, Repr

/-- What a step at this boundary runs: its mnemonic or pseudo-mnemonic and the operand bytes. -/
def stepLabel (s : State) : String × List Byte :=
  if pendingNmi s then ("NMI", [])
  else if pendingIrq s && !s.p.i then ("IRQ", [])
  else match findRow (memRead s s.pc) with
    | some r => (r.mnemonic, (fetchBytes s).drop 1)
    | none => ("", [])

/-- The record `step()` returns; none when it answers no next state. -/
def stepRecord (s : State) : Option StepRecord :=
  match step s with
  | .next t =>
    let b := deliverInputs s
    let l := stepLabel b
    some { addr := b.pc, mnemonic := l.1, operands := l.2, a := t.a, x := t.x, y := t.y, sp := t.sp, pc := t.pc,
           p := t.p.toByte true }
  | .fault _ => none
  | .refused _ => none

end Sys2Proof.Machine
end

