-- ==== Sys2Proof/Safety.lean ====
section
/-! DEFINITION. What counts as a safe state and a safe run, and the terms the statements use: the invariant of the machine,
the lists of an instruction's forms, the undefined opcodes written out (spec/30_encoding.md R122). -/

namespace Sys2Proof.Machine

/-- The invariant: the configuration is one a machine can be built of (spec/20_memory.md R64), memory is canonical and
has cells for RAM and ROM addresses only, the tick is below the interval (spec/10_state.md R36), every extra source has
its flag (spec/60_exceptions.md R281). -/
structure State.Inv (s : State) : Prop where
  config : s.config.wf = true
  mem : s.mem.wf = true
  cells : ∀ a : Addr, isMemory s a = false → s.mem.read a.toNat = Memory.unlisted
  tick : s.kbd.tick < s.config.kbdTickInterval
  extra : s.ic.extra.length = s.config.extraSources.length

/-- A step that completes. -/
def SafeStep (s : State) : Prop := ∃ t, step s = .next t

/-- A run of `n` steps in which no step faults or is refused ("a claim that a program runs to completion must show that
no step faults", spec/60_exceptions.md R262). -/
def SafeRun (n : Nat) (s : State) : Prop := ∃ t, Sys2Proof.core.run n s = .next t

/-- Pages $00 and $01 must be RAM (spec/70_reset_and_hazards.md R347): here, the stack page. -/
def StackIsRam (s : State) : Prop := ∀ sp : Byte, busTarget s (stackAddr sp) = .ram

/-- The 105 undefined opcode bytes, as R122 lists them. -/
def illegalOpcodes : List Byte :=
  [0x02, 0x03, 0x04, 0x07, 0x0B, 0x0C, 0x0F, 0x12, 0x13, 0x14, 0x17, 0x1A, 0x1B, 0x1C, 0x1F, 0x22, 0x23, 0x27, 0x2B, 0x2F] ++
  [0x32, 0x33, 0x34, 0x37, 0x3A, 0x3B, 0x3C, 0x3F, 0x42, 0x43, 0x44, 0x47, 0x4B, 0x4F, 0x52, 0x53, 0x54, 0x57, 0x5A, 0x5B] ++
  [0x5C, 0x5F, 0x62, 0x63, 0x64, 0x67, 0x6B, 0x6F, 0x72, 0x73, 0x74, 0x77, 0x7A, 0x7B, 0x7C, 0x7F, 0x80, 0x82, 0x83, 0x87] ++
  [0x89, 0x8B, 0x8F, 0x92, 0x93, 0x97, 0x9B, 0x9C, 0x9E, 0x9F, 0xA3, 0xA7, 0xAB, 0xAF, 0xB2, 0xB3, 0xB7, 0xBB, 0xBF, 0xC2] ++
  [0xC3, 0xC7, 0xCB, 0xCF, 0xD2, 0xD3, 0xD4, 0xD7, 0xDA, 0xDB, 0xDC, 0xDF, 0xE2, 0xE3, 0xE7, 0xEB, 0xEF, 0xF2, 0xF3, 0xF4] ++
  [0xF7, 0xFA, 0xFB, 0xFC, 0xFF]

/-- The mnemonic of an instruction's row (R120). -/
def mnemonicOf (i : Instr) : String :=
  match findRow i.opcode with
  | some r => r.mnemonic
  | none => ""

/-- Does the instruction store to memory by its rule: the write class and the memory forms of the read-modify-write
class (R118), and the instructions that push (spec/41_stack.md, R212, R238)? -/
def storesToMemory (i : Instr) : Bool :=
  match findRow i.opcode with
  | some r =>
    ["STA", "STX", "STY", "INC", "DEC", "PHA", "PHP", "JSR", "BRK"].contains r.mnemonic ||
      (["ASL", "LSR", "ROL", "ROR"].contains r.mnemonic && r.mode != .acc)
  | none => false

/-! ### The forms of the instructions -/

/-- The byte a read-class form reads, with its instruction. -/
abbrev ReadForms := List (Instr × Byte)

/-- The memory operand of a storing form, with its instruction. -/
abbrev StoreForms := List (Instr × MemOperand)

/-- Every form of LDA and the operand byte it reads (spec/30_encoding.md R118, R120). -/
def formsLda (s : State) (d8 : Byte) (a16 : Addr) : ReadForms :=
  [ (.ldaImm d8, d8),
    (.ldaZp d8, readOperand s (.zp d8)),
    (.ldaZpx d8, readOperand s (.zpx d8)),
    (.ldaAbs a16, readOperand s (.abs a16)),
    (.ldaAbsx a16, readOperand s (.absx a16)),
    (.ldaAbsy a16, readOperand s (.absy a16)),
    (.ldaIndx d8, readOperand s (.indx d8)),
    (.ldaIndy d8, readOperand s (.indy d8)) ]

/-- Every form of LDX and the operand byte it reads (spec/30_encoding.md R118, R120). -/
def formsLdx (s : State) (d8 : Byte) (a16 : Addr) : ReadForms :=
  [ (.ldxImm d8, d8),
    (.ldxZp d8, readOperand s (.zp d8)),
    (.ldxZpy d8, readOperand s (.zpy d8)),
    (.ldxAbs a16, readOperand s (.abs a16)),
    (.ldxAbsy a16, readOperand s (.absy a16)) ]

/-- Every form of LDY and the operand byte it reads (spec/30_encoding.md R118, R120). -/
def formsLdy (s : State) (d8 : Byte) (a16 : Addr) : ReadForms :=
  [ (.ldyImm d8, d8),
    (.ldyZp d8, readOperand s (.zp d8)),
    (.ldyZpx d8, readOperand s (.zpx d8)),
    (.ldyAbs a16, readOperand s (.abs a16)),
    (.ldyAbsx a16, readOperand s (.absx a16)) ]

/-- Every form of ADC and the operand byte it reads (spec/30_encoding.md R118, R120). -/
def formsAdc (s : State) (d8 : Byte) (a16 : Addr) : ReadForms :=
  [ (.adcImm d8, d8),
    (.adcZp d8, readOperand s (.zp d8)),
    (.adcZpx d8, readOperand s (.zpx d8)),
    (.adcAbs a16, readOperand s (.abs a16)),
    (.adcAbsx a16, readOperand s (.absx a16)),
    (.adcAbsy a16, readOperand s (.absy a16)),
    (.adcIndx d8, readOperand s (.indx d8)),
    (.adcIndy d8, readOperand s (.indy d8)) ]

/-- Every form of SBC and the operand byte it reads (spec/30_encoding.md R118, R120). -/
def formsSbc (s : State) (d8 : Byte) (a16 : Addr) : ReadForms :=
  [ (.sbcImm d8, d8),
    (.sbcZp d8, readOperand s (.zp d8)),
    (.sbcZpx d8, readOperand s (.zpx d8)),
    (.sbcAbs a16, readOperand s (.abs a16)),
    (.sbcAbsx a16, readOperand s (.absx a16)),
    (.sbcAbsy a16, readOperand s (.absy a16)),
    (.sbcIndx d8, readOperand s (.indx d8)),
    (.sbcIndy d8, readOperand s (.indy d8)) ]

/-- Every form of AND and the operand byte it reads (spec/30_encoding.md R118, R120). -/
def formsAnd (s : State) (d8 : Byte) (a16 : Addr) : ReadForms :=
  [ (.andImm d8, d8),
    (.andZp d8, readOperand s (.zp d8)),
    (.andZpx d8, readOperand s (.zpx d8)),
    (.andAbs a16, readOperand s (.abs a16)),
    (.andAbsx a16, readOperand s (.absx a16)),
    (.andAbsy a16, readOperand s (.absy a16)),
    (.andIndx d8, readOperand s (.indx d8)),
    (.andIndy d8, readOperand s (.indy d8)) ]

/-- Every form of ORA and the operand byte it reads (spec/30_encoding.md R118, R120). -/
def formsOra (s : State) (d8 : Byte) (a16 : Addr) : ReadForms :=
  [ (.oraImm d8, d8),
    (.oraZp d8, readOperand s (.zp d8)),
    (.oraZpx d8, readOperand s (.zpx d8)),
    (.oraAbs a16, readOperand s (.abs a16)),
    (.oraAbsx a16, readOperand s (.absx a16)),
    (.oraAbsy a16, readOperand s (.absy a16)),
    (.oraIndx d8, readOperand s (.indx d8)),
    (.oraIndy d8, readOperand s (.indy d8)) ]

/-- Every form of EOR and the operand byte it reads (spec/30_encoding.md R118, R120). -/
def formsEor (s : State) (d8 : Byte) (a16 : Addr) : ReadForms :=
  [ (.eorImm d8, d8),
    (.eorZp d8, readOperand s (.zp d8)),
    (.eorZpx d8, readOperand s (.zpx d8)),
    (.eorAbs a16, readOperand s (.abs a16)),
    (.eorAbsx a16, readOperand s (.absx a16)),
    (.eorAbsy a16, readOperand s (.absy a16)),
    (.eorIndx d8, readOperand s (.indx d8)),
    (.eorIndy d8, readOperand s (.indy d8)) ]

/-- Every form of CMP and the operand byte it reads (spec/30_encoding.md R118, R120). -/
def formsCmp (s : State) (d8 : Byte) (a16 : Addr) : ReadForms :=
  [ (.cmpImm d8, d8),
    (.cmpZp d8, readOperand s (.zp d8)),
    (.cmpZpx d8, readOperand s (.zpx d8)),
    (.cmpAbs a16, readOperand s (.abs a16)),
    (.cmpAbsx a16, readOperand s (.absx a16)),
    (.cmpAbsy a16, readOperand s (.absy a16)),
    (.cmpIndx d8, readOperand s (.indx d8)),
    (.cmpIndy d8, readOperand s (.indy d8)) ]

/-- Every form of CPX and the operand byte it reads (spec/30_encoding.md R118, R120). -/
def formsCpx (s : State) (d8 : Byte) (a16 : Addr) : ReadForms :=
  [ (.cpxImm d8, d8),
    (.cpxZp d8, readOperand s (.zp d8)),
    (.cpxAbs a16, readOperand s (.abs a16)) ]

/-- Every form of CPY and the operand byte it reads (spec/30_encoding.md R118, R120). -/
def formsCpy (s : State) (d8 : Byte) (a16 : Addr) : ReadForms :=
  [ (.cpyImm d8, d8),
    (.cpyZp d8, readOperand s (.zp d8)),
    (.cpyAbs a16, readOperand s (.abs a16)) ]

/-- Every form of BIT and the operand byte it reads (spec/30_encoding.md R118, R120). -/
def formsBit (s : State) (d8 : Byte) (a16 : Addr) : ReadForms :=
  [ (.bitZp d8, readOperand s (.zp d8)),
    (.bitAbs a16, readOperand s (.abs a16)) ]

/-- Every memory form of STA and its operand. -/
def formsSta (d8 : Byte) (a16 : Addr) : StoreForms :=
  [ (.staZp d8, .zp d8),
    (.staZpx d8, .zpx d8),
    (.staAbs a16, .abs a16),
    (.staAbsx a16, .absx a16),
    (.staAbsy a16, .absy a16),
    (.staIndx d8, .indx d8),
    (.staIndy d8, .indy d8) ]

/-- Every memory form of STX and its operand. -/
def formsStx (d8 : Byte) (a16 : Addr) : StoreForms :=
  [ (.stxZp d8, .zp d8),
    (.stxZpy d8, .zpy d8),
    (.stxAbs a16, .abs a16) ]

/-- Every memory form of STY and its operand. -/
def formsSty (d8 : Byte) (a16 : Addr) : StoreForms :=
  [ (.styZp d8, .zp d8),
    (.styZpx d8, .zpx d8),
    (.styAbs a16, .abs a16) ]

/-- Every memory form of INC and its operand. -/
def formsInc (d8 : Byte) (a16 : Addr) : StoreForms :=
  [ (.incZp d8, .zp d8),
    (.incZpx d8, .zpx d8),
    (.incAbs a16, .abs a16),
    (.incAbsx a16, .absx a16) ]

/-- Every memory form of DEC and its operand. -/
def formsDec (d8 : Byte) (a16 : Addr) : StoreForms :=
  [ (.decZp d8, .zp d8),
    (.decZpx d8, .zpx d8),
    (.decAbs a16, .abs a16),
    (.decAbsx a16, .absx a16) ]

/-- Every memory form of ASL and its operand. -/
def formsAsl (d8 : Byte) (a16 : Addr) : StoreForms :=
  [ (.aslZp d8, .zp d8),
    (.aslZpx d8, .zpx d8),
    (.aslAbs a16, .abs a16),
    (.aslAbsx a16, .absx a16) ]

/-- Every memory form of LSR and its operand. -/
def formsLsr (d8 : Byte) (a16 : Addr) : StoreForms :=
  [ (.lsrZp d8, .zp d8),
    (.lsrZpx d8, .zpx d8),
    (.lsrAbs a16, .abs a16),
    (.lsrAbsx a16, .absx a16) ]

/-- Every memory form of ROL and its operand. -/
def formsRol (d8 : Byte) (a16 : Addr) : StoreForms :=
  [ (.rolZp d8, .zp d8),
    (.rolZpx d8, .zpx d8),
    (.rolAbs a16, .abs a16),
    (.rolAbsx a16, .absx a16) ]

/-- Every memory form of ROR and its operand. -/
def formsRor (d8 : Byte) (a16 : Addr) : StoreForms :=
  [ (.rorZp d8, .zp d8),
    (.rorZpx d8, .zpx d8),
    (.rorAbs a16, .abs a16),
    (.rorAbsx a16, .absx a16) ]

/-! ### The shifts and rotates in the spec's exact arithmetic (spec/43_shift_rotate.md R201 to R204) -/

/-- ASL: `r = (v * 2) mod 256`, carry `v[7]`. -/
def aslSpec (v : Byte) (_c : Bool) : Byte × Bool := (BitVec.ofNat 8 (v.toNat * 2), decide (128 ≤ v.toNat))

/-- LSR: `r = v div 2`, carry `v[0]`. -/
def lsrSpec (v : Byte) (_c : Bool) : Byte × Bool := (BitVec.ofNat 8 (v.toNat / 2), decide (v.toNat % 2 = 1))

/-- ROL: `r = ((v * 2) mod 256) | P.C`, carry `v[7]`. -/
def rolSpec (v : Byte) (c : Bool) : Byte × Bool :=
  (BitVec.ofNat 8 (v.toNat * 2 % 256 + c.toNat), decide (128 ≤ v.toNat))

/-- ROR: `r = (v div 2) | (P.C * 128)`, carry `v[0]`. -/
def rorSpec (v : Byte) (c : Bool) : Byte × Bool :=
  (BitVec.ofNat 8 (v.toNat / 2 + c.toNat * 128), decide (v.toNat % 2 = 1))

/-! ### Packed decimal (spec/42_arith_logic.md R172, R173) -/

/-- Both nibbles of the byte are decimal digits. -/
def ValidBcd (b : Byte) : Prop := b.toNat / 16 ≤ 9 ∧ b.toNat % 16 ≤ 9

/-- The number a packed-decimal byte stands for. -/
def bcdValue (b : Byte) : Nat := b.toNat / 16 * 10 + b.toNat % 16

/-- The rows of the cycle table whose count is fixed (spec/70_reset_and_hazards.md R360), count first. -/
def fixedCycleTable (d8 : Byte) (a16 : Addr) : List (Nat × List Instr) :=
  [ (2, [ .ldaImm d8, .ldxImm d8, .ldyImm d8, .tax, .tay, .txa, .tya, .tsx, .txs, .adcImm d8, .sbcImm d8,
      .andImm d8, .oraImm d8, .eorImm d8, .cmpImm d8, .cpxImm d8, .cpyImm d8, .inx, .iny, .dex, .dey,
      .aslAcc, .lsrAcc, .rolAcc, .rorAcc, .clc, .sec, .cli, .sei, .cld, .sed, .clv, .nop ]),
    (3, [ .ldaZp d8, .ldxZp d8, .ldyZp d8, .staZp d8, .stxZp d8, .styZp d8, .pha, .php, .adcZp d8, .sbcZp d8,
      .andZp d8, .oraZp d8, .eorZp d8, .cmpZp d8, .cpxZp d8, .cpyZp d8, .bitZp d8, .jmpAbs a16 ]),
    (4, [ .ldaZpx d8, .ldaAbs a16, .ldxZpy d8, .ldxAbs a16, .ldyZpx d8, .ldyAbs a16, .staZpx d8, .staAbs a16,
      .stxZpy d8, .stxAbs a16, .styZpx d8, .styAbs a16, .pla, .plp, .adcZpx d8, .adcAbs a16, .sbcZpx d8,
      .sbcAbs a16, .andZpx d8, .andAbs a16, .oraZpx d8, .oraAbs a16, .eorZpx d8, .eorAbs a16, .cmpZpx d8,
      .cmpAbs a16, .cpxAbs a16, .cpyAbs a16, .bitAbs a16 ]),
    (5, [ .staAbsx a16, .staAbsy a16, .incZp d8, .decZp d8, .aslZp d8, .lsrZp d8, .rolZp d8, .rorZp d8,
      .jmpInd a16 ]),
    (6, [ .ldaIndx d8, .staIndx d8, .staIndy d8, .adcIndx d8, .sbcIndx d8, .andIndx d8, .oraIndx d8,
      .eorIndx d8, .cmpIndx d8, .incZpx d8, .incAbs a16, .decZpx d8, .decAbs a16, .aslZpx d8, .aslAbs a16,
      .lsrZpx d8, .lsrAbs a16, .rolZpx d8, .rolAbs a16, .rorZpx d8, .rorAbs a16, .jsr a16, .rts, .rti ]),
    (7, [ .incAbsx a16, .decAbsx a16, .aslAbsx a16, .lsrAbsx a16, .rolAbsx a16, .rorAbsx a16, .brk ]) ]

/-- The read-class indexed forms with the extra cycle `p` of R360: base count, form, unindexed address, index. -/
def indexedCycleTable (s : State) (d8 : Byte) (a16 : Addr) : List (Nat × Instr × Addr × Byte) :=
  [ (4, .ldaAbsx a16, a16, s.x),
    (4, .ldaAbsy a16, a16, s.y),
    (5, .ldaIndy d8, memRead16ZP s d8, s.y),
    (4, .ldxAbsy a16, a16, s.y),
    (4, .ldyAbsx a16, a16, s.x),
    (4, .adcAbsx a16, a16, s.x),
    (4, .adcAbsy a16, a16, s.y),
    (5, .adcIndy d8, memRead16ZP s d8, s.y),
    (4, .sbcAbsx a16, a16, s.x),
    (4, .sbcAbsy a16, a16, s.y),
    (5, .sbcIndy d8, memRead16ZP s d8, s.y),
    (4, .andAbsx a16, a16, s.x),
    (4, .andAbsy a16, a16, s.y),
    (5, .andIndy d8, memRead16ZP s d8, s.y),
    (4, .oraAbsx a16, a16, s.x),
    (4, .oraAbsy a16, a16, s.y),
    (5, .oraIndy d8, memRead16ZP s d8, s.y),
    (4, .eorAbsx a16, a16, s.x),
    (4, .eorAbsy a16, a16, s.y),
    (5, .eorIndy d8, memRead16ZP s d8, s.y),
    (4, .cmpAbsx a16, a16, s.x),
    (4, .cmpAbsy a16, a16, s.y),
    (5, .cmpIndy d8, memRead16ZP s d8, s.y) ]

/-- The eight branches with the flag test each makes (spec/44_control_flow.md R215 to R222). -/
def branchTable (p : Flags) (rel : Byte) : List (Instr × Bool) :=
  [ (.bcc rel, p.c == false), (.bcs rel, p.c == true), (.beq rel, p.z == true), (.bne rel, p.z == false),
    (.bmi rel, p.n == true), (.bpl rel, p.n == false), (.bvc rel, p.v == false), (.bvs rel, p.v == true) ]

end Sys2Proof.Machine
end

