-- ==== Sys2Proof/Certificates/Slice0/Obligations.lean ====
section
/-! DEFINITION. The statements for the provers. Each says in its docstring which rules of spec/ it formalises. -/

open Sys2Proof Sys2Proof.Machine

/-- The state after reset meets the invariant of the model. -/
def Obligations.ResetStateMeetsInvariant : Prop :=
  State.reset.Inv

/-- R340, R341 with the table of R40: what `reset()` leaves, for any draws. The draws are a parameter, so nothing rests on the values log entry 3 names. That `matrix`, `inputs` and `config` stay is what the model deduces from the table's silence (log entry 12); the list of inputs itself is log entry 2. -/
def Obligations.HostResetSetsEveryResetValue : Prop :=
  ∀ (w : ResetDraws) (s : State),
    let t := hostReset w s
    t.a = w.a ∧ t.x = w.x ∧ t.y = w.y ∧ t.sp = w.sp ∧
    t.p = { n := w.n, v := w.v, d := w.d, i := true, z := w.z, c := w.c } ∧
    t.halted = none ∧ t.cycles = 0 ∧ t.ic.crtc = false ∧ t.ic.nmiExt = false ∧
    (∀ (k : Nat) (e : ExtraSource), s.config.extraSources[k]? = some e → e.trigger = .edge →
      ∀ f, t.ic.extra[k]? = some f → f = false) ∧
    t.kbd.scanRow = 0 ∧ t.kbd.we = false ∧ t.kbd.ddrA = 0x00 ∧ t.kbd.ddrB = 0x00 ∧ t.kbd.ora = 0x00 ∧
    t.kbd.orb = 0x00 ∧ t.kbd.tick = 0 ∧
    t.crtc.addr = 0 ∧ (∀ (k : Nat) (h : k < 18), t.crtc.reg[k] = 0x00) ∧
    t.mem = s.mem ∧
    t.pc = wordOf (memRead t 0xFFFD) (memRead t 0xFFFC) ∧
    t.matrix = s.matrix ∧ t.inputs = s.inputs ∧ t.config = s.config

/-- Construction (R64, conflict C6, U4, U8). The model's own: UnmappedAddress also for a range upside down and for a register missing, twice or wide, and the name of the second error (log entry 15); the rules on the IC_ACK bits of extra sources in `paramsWf` (log entry 10). -/
def Obligations.BuildRefusesIllFormedConfigurations : Prop :=
  ∀ (c : Config) (image : List Host.Cell) (w : ResetDraws),
    (Config.mapWf c.busMap = false → build c image w = .error .unmappedAddress) ∧
    (Config.mapWf c.busMap = true → c.paramsWf = false → build c image w = .error .badParameter) ∧
    (c.wf = true → ∃ s, build c image w = .ok s ∧ s.Inv ∧ s.config = c)

/-- R64: "every address resolves to exactly one device". -/
def Obligations.WellFormedMapResolvesEachAddressOnce : Prop :=
  ∀ (m : List MapEntry), Config.mapWf m = true → ∀ a : Addr,
    ∃ e, m.filter (fun f => f.contains a) = [e] ∧ targetOf m a = e.target

/-- The invariant is inductive over `step`, from every state that meets it. -/
def Obligations.EveryStepKeepsTheInvariant : Prop :=
  ∀ s t : State, s.Inv → step s = .next t → t.Inv

/-- R68 over the whole machine: writes to ROM are ignored, and "the map is static once built" (R63). -/
def Obligations.NoStepChangesRom : Prop :=
  ∀ s t : State, step s = .next t →
    t.config = s.config ∧
    ∀ a : Addr, busTarget s a = .rom → busTarget t a = .rom ∧ memRead t a = memRead s a

/-- R67 and R68. -/
def Obligations.RamAndRomBytesFollowTheirRules : Prop :=
  ∀ (s : State) (a : Addr) (v : Byte), s.mem.wf = true →
    (busTarget s a = .ram →
      memRead (memWrite s a v) a = v ∧
      (∀ b, b ≠ a → isMemory s b = true → memRead (memWrite s a v) b = memRead s b) ∧
      memWrite s a v = { s with mem := (memWrite s a v).mem }) ∧
    (busTarget s a = .rom → memWrite s a v = s)

/-- The model's own representation of the memory of R60: equal memories are equal data. -/
def Obligations.CanonicalMemoriesThatReadAlikeAreEqual : Prop :=
  ∀ m n : Memory, m.wf = true → n.wf = true → (∀ a, a < 65536 → m.read a = n.read a) → m = n

/-- R71. -/
def Obligations.WordsAreReadLowByteFirst : Prop :=
  ∀ (s : State) (a : Addr) (zp : Byte),
    (memRead16 s a).toNat =
      (memRead s (BitVec.ofNat 16 ((a.toNat + 1) % 65536))).toNat * 256 + (memRead s a).toNat ∧
    (memRead16ZP s zp).toNat =
      (memRead s (BitVec.ofNat 16 ((zp.toNat + 1) % 256))).toNat * 256 + (memRead s (BitVec.ofNat 16 zp.toNat)).toNat

/-- R293 and R294. -/
def Obligations.KeyboardPortShowsTheSelectedKey : Prop :=
  ∀ (s : State) (a : Addr), busTarget s a = .kbdPort →
    (∀ k, k < 7 → (memRead s a).getLsbD k = s.kbd.ora.getLsbD k) ∧
    (memRead s a).getLsbD 7 =
      (if s.kbd.ddrA = 0x7F then keyDown s.matrix (s.kbd.ora.toNat / 16 % 8) (s.kbd.ora.toNat % 16)
       else s.kbd.ora.getLsbD 7) ∧
    (∀ (r c : Nat) (hr : r < 7) (hc : c < 10), keyDown s.matrix r c = s.matrix[r][c]) ∧
    (∀ r c : Nat, (7 ≤ r ∨ 10 ≤ c) → keyDown s.matrix r c = false) ∧
    (∀ r : Fin 7, rowHasKey s.matrix r = true ↔ ∃ c, c < 10 ∧ keyDown s.matrix r.val c = true)

/-- R292, R295, R296, R297, and the register part of R291. -/
def Obligations.KeyboardRegistersStoreWhatIsWritten : Prop :=
  ∀ (s : State) (a : Addr) (v : Byte),
    (busTarget s a = .kbdPort → memWrite s a v = { s with kbd := { s.kbd with ora := v } }) ∧
    (busTarget s a = .kbdDdr → memWrite s a v = { s with kbd := { s.kbd with ddrA := v } } ∧
      memRead s a = s.kbd.ddrA ∧ memRead (memWrite s a v) a = v) ∧
    (busTarget s a = .kbdCtrlDdr → memWrite s a v = { s with kbd := { s.kbd with ddrB := v } } ∧
      memRead s a = s.kbd.ddrB ∧ memRead (memWrite s a v) a = v) ∧
    (busTarget s a = .kbdCtrl →
      memRead s a = s.kbd.orb ∧ memRead (memWrite s a v) a = v ∧
      (v = s.config.kbdEnablePattern →
        memWrite s a v = { s with kbd := { s.kbd with orb := v, we := true } }) ∧
      (v ≠ s.config.kbdEnablePattern → v = s.config.kbdDisablePattern →
        memWrite s a v = { s with kbd := { s.kbd with orb := v, we := false } }) ∧
      (v ≠ s.config.kbdEnablePattern → v ≠ s.config.kbdDisablePattern →
        memWrite s a v = { s with kbd := { s.kbd with orb := v } }))

/-- R305. -/
def Obligations.KeyboardLineNeedsEnableAndStrobedKey : Prop :=
  ∀ s : State,
    (keyboardLine s = true ↔ s.kbd.we = true ∧ ∃ c, c < 10 ∧ keyDown s.matrix s.kbd.scanRow.val c = true) ∧
    (s.kbd.we = false → ∀ m : KeyMatrix, keyboardLine { s with matrix := m } = false) ∧
    (∀ d o b : Byte, keyboardLine { s with kbd := { s.kbd with ddrA := d, ora := o, orb := b } } = keyboardLine s)

/-- R300 and R301. -/
def Obligations.DeviceTickAdvancesTheScan : Prop :=
  ∀ (n : Nat) (s : State),
    (s.kbd.we = false → deviceTick n s = s) ∧
    (s.kbd.we = true → deviceTick n s = { s with kbd := { s.kbd with
      tick := (s.kbd.tick + n) % s.config.kbdTickInterval
      scanRow := (fun r => if rowHasKey s.matrix r then r else r + 1)^[(s.kbd.tick + n) / s.config.kbdTickInterval]
        s.kbd.scanRow } }) ∧
    (∀ r : Fin 7, (r + 1).val = (r.val + 1) % 7)

/-- R302, over runs: no write to `KBD_PORT` or `KBD_DDR` is needed, and the line stays true (any larger n will do). That the host changes nothing is `s.inputs = []`, the form of log entry 2. -/
def Obligations.HeldKeyRaisesTheKeyboardLine : Prop :=
  ∀ (n : Nat) (s t : State), 0 < s.config.kbdTickInterval → s.inputs = [] →
    (∃ r : Fin 7, rowHasKey s.matrix r = true) →
    (∀ k u, k ≤ n → Sys2Proof.core.run k s = .next u → State.kbd u = { State.kbd u with we := true }) →
    7 * s.config.kbdTickInterval ≤ 2 * n → Sys2Proof.core.run n s = .next t → keyboardLine t = true

/-- R286. -/
def Obligations.AcknowledgeWriteClearsEdgeSources : Prop :=
  ∀ (s : State) (a : Addr) (v : Byte), busTarget s a = .icAck →
    let t := memWrite s a v
    t.ic.crtc = (s.ic.crtc && !v.getLsbD 1) ∧ t.ic.nmiExt = s.ic.nmiExt ∧
    t.ic.extra.length = s.ic.extra.length ∧
    (∀ (k : Nat) (e : ExtraSource) (f : Bool), s.config.extraSources[k]? = some e → s.ic.extra[k]? = some f →
      ((e.cls = .irq ∧ e.trigger = .edge ∧ ∃ b, e.ackBit = some b ∧ v.getLsbD b = true) →
        t.ic.extra[k]? = some false) ∧
      (¬(e.cls = .irq ∧ e.trigger = .edge ∧ ∃ b, e.ackBit = some b ∧ v.getLsbD b = true) →
        t.ic.extra[k]? = some f)) ∧
    t = { s with ic := t.ic }

/-- R287, with R284 for bit 7. -/
def Obligations.StatusReadShowsThePendingSources : Prop :=
  ∀ (s : State) (a : Addr), busTarget s a = .icAck →
    (memRead s a).getLsbD 0 = keyboardLine s ∧ (memRead s a).getLsbD 1 = s.ic.crtc ∧
    (∀ k, 2 ≤ k → k ≤ 6 → ((memRead s a).getLsbD k = true ↔
      ∃ (j : Nat) (e : ExtraSource), s.config.extraSources[j]? = some e ∧ e.cls = .irq ∧ e.ackBit = some k ∧
        s.ic.extra[j]? = some true)) ∧
    (memRead s a).getLsbD 7 = pendingIrq s ∧
    (pendingIrq s = true ↔ keyboardLine s = true ∨ s.ic.crtc = true ∨
      ∃ (j : Nat) (e : ExtraSource), s.config.extraSources[j]? = some e ∧ e.cls = .irq ∧ s.ic.extra[j]? = some true)

/-- R310 to R313. -/
def Obligations.CrtcRegisterFileAccess : Prop :=
  ∀ (s : State) (a : Addr) (v : Byte),
    (busTarget s a = .crtcAddr →
      memWrite s a v = { s with crtc := { s.crtc with addr := BitVec.ofNat 5 (v.toNat % 32) } } ∧
      (memRead s a).toNat = s.crtc.addr.toNat) ∧
    (busTarget s a = .crtcData →
      let t := memWrite s a v
      t.crtc.addr = s.crtc.addr ∧ t = { s with crtc := t.crtc } ∧
      (∀ (k : Nat) (h : k < 18), t.crtc.reg[k] = if k = s.crtc.addr.toNat then v else s.crtc.reg[k]) ∧
      (∀ h : s.crtc.addr.toNat < 18, memRead s a = s.crtc.reg[s.crtc.addr.toNat]) ∧
      (18 ≤ s.crtc.addr.toNat → t = s ∧ memRead s a = 0x00))

/-- The encoder and the decoder agree on all 151 constructors; every instruction is well-formed (R123). -/
def Obligations.DecodeOfEncodeIsTheInstruction : Prop :=
  ∀ (i : Instr) (rest : List Byte), i.WellFormed → decode (encode i ++ rest) = .ok (i, rest)

/-- The other direction of the round trip. -/
def Obligations.EncodeOfDecodeIsTheBytes : Prop :=
  ∀ (bs : List Byte) (i : Instr) (rest : List Byte), decode bs = .ok (i, rest) → bs = encode i ++ rest

/-- R122. -/
def Obligations.ExactlyTheListedOpcodesAreIllegal : Prop :=
  (∀ (op : Byte) (rest : List Byte),
      op ∈ illegalOpcodes ↔ decode (op :: rest) = .error (.illegalOpcode op)) ∧
    illegalOpcodes.length = 105 ∧ illegalOpcodes.Nodup

/-- Sanity of the decoder on the examples of R124. -/
def Obligations.SampleWordsDecode : Prop :=
  decode [0xA9, 0x05] = .ok (.ldaImm 0x05, []) ∧ decode [0x8D, 0x00, 0x02] = .ok (.staAbs 0x0200, []) ∧
    decode [0xD0, 0xF9] = .ok (.bne 0xF9, []) ∧ decode [0x6C, 0xFF, 0x02] = .ok (.jmpInd 0x02FF, []) ∧
    decode [0xA1, 0x20] = .ok (.ldaIndx 0x20, []) ∧ decode [0xB1, 0x20] = .ok (.ldaIndy 0x20, []) ∧
    decode [0xB6, 0x10] = .ok (.ldxZpy 0x10, []) ∧ decode [0x0A] = .ok (.aslAcc, []) ∧
    decode [0x18] = .ok (.clc, []) ∧ decode [0x00] = .ok (.brk, [])

/-- R100 and R101: what `step` adds around `exec` is the host inputs at the boundary (log entry 2), PC past the instruction, the cycle count and the device tick. -/
def Obligations.StepRunsTheInstructionAtPc : Prop :=
  ∀ (s : State) (i : Instr), s.halted = none → pendingNmi (deliverInputs s) = false →
    (pendingIrq (deliverInputs s) = false ∨ s.p.i = true) →
    (∀ (k : Nat) (h : k < (encode i).length),
      memRead (deliverInputs s) (s.pc + BitVec.ofNat 16 k) = (encode i)[k]) →
    let u := { deliverInputs s with pc := s.pc + BitVec.ofNat 16 (encode i).length }
    step s = match exec i u with
      | .next t => .next (deviceTick (cyclesOf i u) { t with cycles := t.cycles + cyclesOf i u })
      | .fault f => .fault f
      | .refused r => .refused r

/-- R261. The state at the boundary is the one in which the host inputs have taken effect (log entry 2); that the fault carries the state it leaves is log entry 6. -/
def Obligations.IllegalOpcodeFaultsAndLatches : Prop :=
  (∀ s : State, s.halted = none → pendingNmi (deliverInputs s) = false →
    (pendingIrq (deliverInputs s) = false ∨ s.p.i = true) →
    memRead (deliverInputs s) s.pc ∈ illegalOpcodes →
    step s = .fault (.illegalOpcode s.pc (memRead (deliverInputs s) s.pc)
      { deliverInputs s with
        halted := some { addr := s.pc, opcode := memRead (deliverInputs s) s.pc } })) ∧
    (∀ (s : State) (f : Fault), step s = .fault f →
      s.halted = none ∧ memRead (deliverInputs s) s.pc ∈ illegalOpcodes ∧
      f = .illegalOpcode s.pc (memRead (deliverInputs s) s.pc)
        { deliverInputs s with
          halted := some { addr := s.pc, opcode := memRead (deliverInputs s) s.pc } })

/-- R262. -/
def Obligations.HaltedMachineRefusesUntilReset : Prop :=
  (∀ (s : State) (info : FaultInfo), s.halted = some info → step s = .refused (.halted info)) ∧
    ∀ (s left : State) (a : Addr) (op : Byte), step s = .fault (.illegalOpcode a op left) →
    (∀ ic : InterruptController, step { left with ic := ic } = .refused (.halted { addr := a, opcode := op })) ∧
    (∀ w : ResetDraws, (hostReset w left).halted = none) ∧
    left.pc = a ∧ left.cycles = s.cycles ∧ left.kbd = s.kbd ∧ left.mem = s.mem

/-- R263 and R275: there is no other fault, and an interrupt entry never fails. The boundary is the one after the host inputs (log entry 2). -/
def Obligations.OnlyIllegalOpcodesStopTheMachine : Prop :=
  (∀ (i : Instr) (s : State), ∃ t, exec i s = .next t) ∧
    (∀ s : State, s.halted = none →
      (pendingNmi (deliverInputs s) = true ∨ (pendingIrq (deliverInputs s) = true ∧ s.p.i = false)) →
      ∃ t, step s = .next t) ∧
    (∀ s : State, s.halted = none →
      (∃ t, step s = .next t) ∨
      (memRead (deliverInputs s) s.pc ∈ illegalOpcodes ∧
        ∃ left, step s = .fault (.illegalOpcode s.pc (memRead (deliverInputs s) s.pc) left)))

/-- R100, R270, R273. The boundary is the one after the host inputs (log entry 2). -/
def Obligations.InterruptsAreTakenByPriority : Prop :=
  ∀ s : State, s.halted = none →
    (pendingNmi (deliverInputs s) = true →
      step s = .next (finishStep 7 (interruptEntry .nmi (deliverInputs s)))) ∧
    (pendingNmi (deliverInputs s) = false → pendingIrq (deliverInputs s) = true → s.p.i = false →
      step s = .next (finishStep 7 (interruptEntry .irq (deliverInputs s)))) ∧
    (pendingNmi (deliverInputs s) = false → (pendingIrq (deliverInputs s) = false ∨ s.p.i = true) →
      step s = executeOne (deliverInputs s)) ∧
    (∀ t : State, finishStep 7 t = deviceTick 7 { t with cycles := t.cycles + 7 })

/-- R271 and R272. -/
def Obligations.InterruptEntryPushesPcAndStatus : Prop :=
  ∀ s : State,
    let s1 := memWrite s (0x0100 + zext s.sp) (hiByte s.pc)
    let s2 := memWrite s1 (0x0100 + zext (s.sp - 1)) (loByte s.pc)
    let s3 := memWrite s2 (0x0100 + zext (s.sp - 2)) (s.p.toByte false)
    interruptEntry .irq s =
      { s3 with sp := s.sp - 3, p := { s.p with i := true }, pc := memRead16 s3 0xFFFE } ∧
    interruptEntry .nmi s = nmiAcknowledge
      { s3 with sp := s.sp - 3, p := { s.p with i := true }, pc := memRead16 s3 0xFFFA } ∧
    (∀ t : State, nmiAcknowledge t = { t with ic := { t.ic with
      nmiExt := false
      extra := (nmiAcknowledge t).ic.extra } } ∧
      (∀ (k : Nat) (e : ExtraSource) (f : Bool), t.config.extraSources[k]? = some e → t.ic.extra[k]? = some f →
        (nmiAcknowledge t).ic.extra[k]? = some (if e.cls = .nmi ∧ e.trigger = .edge then false else f)))

/-- R272: "one assertion of `nmi_ext` causes one NMI entry and not one per step". -/
def Obligations.OneNmiEventIsTakenOnce : Prop :=
  ∀ s t : State, s.halted = none → pendingNmi (deliverInputs s) = true → step s = .next t →
    t.ic.nmiExt = false ∧
    ((∀ e ∈ s.config.extraSources, e.cls = .nmi → e.trigger = .edge) → pendingNmi t = false)

/-- R239: "returning from that handler restores the prior status and PC exactly". -/
def Obligations.RtiUndoesInterruptEntry : Prop :=
  ∀ (kind : IntClass) (s u : State), s.mem.wf = true → StackIsRam s →
    u.sp = (interruptEntry kind s).sp →
    (∀ k ∈ [s.sp, s.sp - 1, s.sp - 2],
      memRead u (stackAddr k) = memRead (interruptEntry kind s) (stackAddr k)) →
    exec .rti u = .next { u with sp := s.sp, p := s.p, pc := s.pc }

/-- R212, R213, R223. -/
def Obligations.RtsUndoesJsr : Prop :=
  ∀ (s : State) (a16 : Addr), s.mem.wf = true → StackIsRam s →
    ∃ t, exec (.jsr a16) s = .next t ∧ t.pc = a16 ∧ t.sp = s.sp - 2 ∧
      ∀ u : State, u.sp = t.sp →
        (∀ k ∈ [s.sp, s.sp - 1], memRead u (stackAddr k) = memRead t (stackAddr k)) →
        exec .rts u = .next { u with sp := s.sp, pc := s.pc }

/-- R160 and R161. -/
def Obligations.PullAfterPushReturnsTheByte : Prop :=
  ∀ (s : State) (v : Byte), s.mem.wf = true → StackIsRam s →
    pullByte (push v s) = v ∧ (pulled (push v s)).sp = s.sp ∧
    (push v s).sp.toNat = (s.sp.toNat + 255) % 256 ∧ (pulled s).sp.toNat = (s.sp.toNat + 1) % 256 ∧
    pullByte s = memRead s (BitVec.ofNat 16 (0x0100 + (s.sp.toNat + 1) % 256)) ∧
    memRead (push v s) (BitVec.ofNat 16 (0x0100 + s.sp.toNat)) = v ∧
    (∀ b : Addr, b.toNat ≠ 0x0100 + s.sp.toNat → isMemory s b = true → memRead (push v s) b = memRead s b) ∧
    pulled s = { s with sp := s.sp + 1 } ∧
    (∀ w : Addr, pushWord w s = push (loByte w) (push (hiByte w) s))

/-- R107 to R112, R114, R115. (R109 to R112 and R115 say more, of page crossing and of who uses the mode: CycleCountsFollowTheTable and the form lists.) -/
def Obligations.EffectiveAddressesFollowTheModes : Prop :=
  ∀ (s : State) (d8 : Byte) (a16 : Addr),
    (ea s (.zp d8)).toNat = d8.toNat ∧
    (ea s (.zpx d8)).toNat = (d8.toNat + s.x.toNat) % 256 ∧
    (ea s (.zpy d8)).toNat = (d8.toNat + s.y.toNat) % 256 ∧
    ea s (.abs a16) = a16 ∧
    (ea s (.absx a16)).toNat = (a16.toNat + s.x.toNat) % 65536 ∧
    (ea s (.absy a16)).toNat = (a16.toNat + s.y.toNat) % 65536 ∧
    (ea s (.indx d8)).toNat =
      (memRead s (BitVec.ofNat 16 ((d8.toNat + s.x.toNat + 1) % 256))).toNat * 256 +
        (memRead s (BitVec.ofNat 16 ((d8.toNat + s.x.toNat) % 256))).toNat ∧
    (ea s (.indy d8)).toNat =
      ((memRead s (BitVec.ofNat 16 ((d8.toNat + 1) % 256))).toNat * 256 +
        (memRead s (BitVec.ofNat 16 d8.toNat)).toNat + s.y.toNat) % 65536

/-- R141, R142, R143. -/
def Obligations.LoadsWriteTheRegisterAndNZ : Prop :=
  (∀ (s : State) (d8 : Byte) (a16 : Addr),
      (formsLda s d8 a16).map (fun f => f.1.opcode) = [0xA9, 0xA5, 0xB5, 0xAD, 0xBD, 0xB9, 0xA1, 0xB1] ∧
      (formsLdx s d8 a16).map (fun f => f.1.opcode) = [0xA2, 0xA6, 0xB6, 0xAE, 0xBE] ∧
      (formsLdy s d8 a16).map (fun f => f.1.opcode) = [0xA0, 0xA4, 0xB4, 0xAC, 0xBC]) ∧
  ∀ (s : State) (d8 : Byte) (a16 : Addr) (f : Instr × Byte),
    (f ∈ formsLda s d8 a16 →
      exec f.1 s = .next { s with a := f.2, p := { s.p with n := f.2.getLsbD 7, z := decide (f.2 = 0) } }) ∧
    (f ∈ formsLdx s d8 a16 →
      exec f.1 s = .next { s with x := f.2, p := { s.p with n := f.2.getLsbD 7, z := decide (f.2 = 0) } }) ∧
    (f ∈ formsLdy s d8 a16 →
      exec f.1 s = .next { s with y := f.2, p := { s.p with n := f.2.getLsbD 7, z := decide (f.2 = 0) } })

/-- R144, R145, R146; what the bus write does is R67 to R69. -/
def Obligations.StoresWriteTheRegisterAtTheAddress : Prop :=
  (∀ (d8 : Byte) (a16 : Addr),
      (formsSta d8 a16).map (fun f => f.1.opcode) = [0x85, 0x95, 0x8D, 0x9D, 0x99, 0x81, 0x91] ∧
      (formsStx d8 a16).map (fun f => f.1.opcode) = [0x86, 0x96, 0x8E] ∧
      (formsSty d8 a16).map (fun f => f.1.opcode) = [0x84, 0x94, 0x8C]) ∧
  ∀ (s : State) (d8 : Byte) (a16 : Addr) (f : Instr × MemOperand),
    (f ∈ formsSta d8 a16 → exec f.1 s = .next (memWrite s (ea s f.2) s.a)) ∧
    (f ∈ formsStx d8 a16 → exec f.1 s = .next (memWrite s (ea s f.2) s.x)) ∧
    (f ∈ formsSty d8 a16 → exec f.1 s = .next (memWrite s (ea s f.2) s.y)) ∧
    (∀ (a : Addr) (v : Byte), busTarget s a = .rom → memWrite s a v = s)

/-- The frame of the write and read-modify-write classes (R118). An address that is not a RAM or ROM cell is a device register, whose read may change with the device (R73). -/
def Obligations.MemoryFormsChangeOneByteOnly : Prop :=
  ∀ (s t : State) (d8 : Byte) (a16 : Addr) (f : Instr × MemOperand),
    f ∈ formsSta d8 a16 ++ formsStx d8 a16 ++ formsSty d8 a16 ++ formsInc d8 a16 ++ formsDec d8 a16 ++
      formsAsl d8 a16 ++ formsLsr d8 a16 ++ formsRol d8 a16 ++ formsRor d8 a16 →
    exec f.1 s = .next t →
    t.a = s.a ∧ t.x = s.x ∧ t.y = s.y ∧ t.sp = s.sp ∧ t.pc = s.pc ∧
    t.p.v = s.p.v ∧ t.p.d = s.p.d ∧ t.p.i = s.p.i ∧
    (f ∈ formsSta d8 a16 ++ formsStx d8 a16 ++ formsSty d8 a16 → t.p = s.p) ∧
    (f ∈ formsInc d8 a16 ++ formsDec d8 a16 → t.p.c = s.p.c) ∧
    t.halted = s.halted ∧ t.freeCount = s.freeCount ∧
    (isMemory s (ea s f.2) = true → t.ic = s.ic ∧ t.kbd = s.kbd ∧ t.crtc = s.crtc) ∧
    (∀ a : Addr, a ≠ ea s f.2 → isMemory s a = true → memRead t a = memRead s a)

/-- R147 to R152. -/
def Obligations.TransfersCopyARegister : Prop :=
  ([.tax, .tay, .txa, .tya, .tsx, .txs] : List Instr).map Instr.opcode =
      [0xAA, 0xA8, 0x8A, 0x98, 0xBA, 0x9A] ∧
  ∀ s : State,
    exec .tax s = .next { s with x := s.a, p := { s.p with n := s.a.getLsbD 7, z := decide (s.a = 0) } } ∧
    exec .tay s = .next { s with y := s.a, p := { s.p with n := s.a.getLsbD 7, z := decide (s.a = 0) } } ∧
    exec .txa s = .next { s with a := s.x, p := { s.p with n := s.x.getLsbD 7, z := decide (s.x = 0) } } ∧
    exec .tya s = .next { s with a := s.y, p := { s.p with n := s.y.getLsbD 7, z := decide (s.y = 0) } } ∧
    exec .tsx s = .next { s with x := s.sp, p := { s.p with n := s.sp.getLsbD 7, z := decide (s.sp = 0) } } ∧
    exec .txs s = .next { s with sp := s.x }

/-- R162, R163, and the layout of R25. -/
def Obligations.PushesWriteTheStackByte : Prop :=
  ([.pha, .php] : List Instr).map Instr.opcode =
      [0x48, 0x08] ∧
  (∀ s : State,
      exec .pha s = .next { memWrite s (0x0100 + zext s.sp) s.a with sp := s.sp - 1 } ∧
      exec .php s = .next { memWrite s (0x0100 + zext s.sp) (s.p.toByte true) with sp := s.sp - 1 }) ∧
    (∀ (p : Flags) (b : Bool),
      (p.toByte b).getLsbD 7 = p.n ∧ (p.toByte b).getLsbD 6 = p.v ∧ (p.toByte b).getLsbD 5 = true ∧
      (p.toByte b).getLsbD 4 = b ∧ (p.toByte b).getLsbD 3 = p.d ∧ (p.toByte b).getLsbD 2 = p.i ∧
      (p.toByte b).getLsbD 1 = p.z ∧ (p.toByte b).getLsbD 0 = p.c)

/-- R164, R165. -/
def Obligations.PullsReadTheStackByte : Prop :=
  ([.pla, .plp] : List Instr).map Instr.opcode =
      [0x68, 0x28] ∧
  ∀ s : State,
    let b := memRead s (0x0100 + zext (s.sp + 1))
    exec .pla s = .next { s with sp := s.sp + 1, a := b, p := { s.p with n := b.getLsbD 7, z := decide (b = 0) } } ∧
    exec .plp s = .next { s with
      sp := s.sp + 1
      p := { n := b.getLsbD 7, v := b.getLsbD 6, d := b.getLsbD 3, i := b.getLsbD 2, z := b.getLsbD 1, c := b.getLsbD 0 } }

/-- R171 and R174. Nothing rests on the values drawn (log entry 7): they are said only to exist. -/
def Obligations.AdcAddsWithCarry : Prop :=
  (∀ (s : State) (d8 : Byte) (a16 : Addr),
      (formsAdc s d8 a16).map (fun f => f.1.opcode) = [0x69, 0x65, 0x75, 0x6D, 0x7D, 0x79, 0x61, 0x71]) ∧
  ∀ (s : State) (d8 : Byte) (a16 : Addr) (f : Instr × Byte), f ∈ formsAdc s d8 a16 →
    let sum := s.a.toNat + f.2.toNat + s.p.c.toNat
    let signed := s.a.toInt + f.2.toInt + s.p.c.toNat
    let r := BitVec.ofNat 8 (sum % 256)
    let k := addDecimal s.a f.2 s.p.c
    (s.p.d = false → exec f.1 s = .next { s with
      a := r
      p := { s.p with
        c := decide (256 ≤ sum)
        v := decide (signed < -128 ∨ 127 < signed)
        n := r.getLsbD 7
        z := decide (r = 0) } }) ∧
    (s.p.d = true → s.config.decimalNvz = .nmos → exec f.1 s = .next { s with
      a := k.r
      p := { s.p with c := k.c, n := k.n, v := k.v, z := k.z } }) ∧
    (s.p.d = true → s.config.decimalNvz = .draw → ∃ (n v z : Bool) (j : Nat), exec f.1 s = .next { s with
      a := k.r
      p := { s.p with c := k.c, n := n, v := v, z := z }
      freeCount := j })

/-- R175. Nothing rests on the values drawn (log entry 7). -/
def Obligations.SbcSubtractsWithBorrow : Prop :=
  (∀ (s : State) (d8 : Byte) (a16 : Addr),
      (formsSbc s d8 a16).map (fun f => f.1.opcode) = [0xE9, 0xE5, 0xF5, 0xED, 0xFD, 0xF9, 0xE1, 0xF1]) ∧
  ∀ (s : State) (d8 : Byte) (a16 : Addr) (f : Instr × Byte), f ∈ formsSbc s d8 a16 →
    let diff : Int := (s.a.toNat : Int) - f.2.toNat - (1 - s.p.c.toNat)
    let signed : Int := s.a.toInt - f.2.toInt - (1 - s.p.c.toNat)
    let rb := BitVec.ofInt 8 diff
    let binary : Flags := { s.p with
      c := decide (0 ≤ diff)
      v := decide (signed < -128 ∨ 127 < signed)
      n := rb.getLsbD 7
      z := decide (rb = 0) }
    let r := subDecimal s.a f.2 s.p.c
    (s.p.d = false → exec f.1 s = .next { s with a := rb, p := binary }) ∧
    (s.p.d = true → s.config.decimalNvz = .nmos → exec f.1 s = .next { s with a := r, p := binary }) ∧
    (s.p.d = true → s.config.decimalNvz = .draw → ∃ (n v z : Bool) (j : Nat), exec f.1 s = .next { s with
      a := r
      p := { s.p with c := binary.c, n := n, v := v, z := z }
      freeCount := j })

/-- The formulas of R172 and R173, in their own masks. (Correctness on valid BCD is DecimalArithmeticIsExactOnBcd; what ADC and SBC do with the flags is AdcAddsWithCarry, SbcSubtractsWithBorrow.) -/
def Obligations.DecimalHelpersAreTheNibbleAlgorithms : Prop :=
  ∀ (a m : Byte) (c : Bool),
    (let al0 := (a &&& 0x0F#8).toNat + (m &&& 0x0F#8).toNat + c.toNat
     let al := if al0 ≥ 0x0A then ((al0 + 0x06) &&& 0x0F) + 0x10 else al0
     let s := (a &&& 0xF0#8).toNat + (m &&& 0xF0#8).toNat + al
     let s' := if s ≥ 0xA0 then s + 0x60 else s
     addDecimal a m c =
       { r := BitVec.ofNat 8 (s' % 256)
         c := decide (s' ≥ 0x100)
         n := s.testBit 7
         v := decide (((a.toNat ^^^ s) &&& (m.toNat ^^^ s) &&& 0x80) ≠ 0)
         z := decide ((a.toNat + m.toNat + c.toNat) % 256 = 0) }) ∧
    (let al0 : Int := (a &&& 0x0F#8).toNat - (m &&& 0x0F#8).toNat + c.toNat - 1
     let al : Int := if al0 < 0 then (al0 - 0x06) % 16 - 0x10 else al0
     let s : Int := (a &&& 0xF0#8).toNat - (m &&& 0xF0#8).toNat + al
     let s' : Int := if s < 0 then s - 0x60 else s
     ((subDecimal a m c).toNat : Int) = s' % 256)

/-- The sentences of R172 and R173 on operands that are valid BCD. -/
def Obligations.DecimalArithmeticIsExactOnBcd : Prop :=
  ∀ (a m : Byte) (c : Bool), ValidBcd a → ValidBcd m →
    let k := addDecimal a m c
    let sum := bcdValue a + bcdValue m + c.toNat
    let diff : Int := (bcdValue a : Int) - bcdValue m - (1 - c.toNat)
    ValidBcd k.r ∧ bcdValue k.r = sum % 100 ∧ k.c = decide (100 ≤ sum) ∧
    ValidBcd (subDecimal a m c) ∧
    (bcdValue (subDecimal a m c) : Int) = if diff < 0 then diff + 100 else diff

/-- R176, R177, R178. -/
def Obligations.LogicWritesAAndNZ : Prop :=
  (∀ (s : State) (d8 : Byte) (a16 : Addr),
      (formsAnd s d8 a16).map (fun f => f.1.opcode) = [0x29, 0x25, 0x35, 0x2D, 0x3D, 0x39, 0x21, 0x31] ∧
      (formsOra s d8 a16).map (fun f => f.1.opcode) = [0x09, 0x05, 0x15, 0x0D, 0x1D, 0x19, 0x01, 0x11] ∧
      (formsEor s d8 a16).map (fun f => f.1.opcode) = [0x49, 0x45, 0x55, 0x4D, 0x5D, 0x59, 0x41, 0x51]) ∧
  ∀ (s : State) (d8 : Byte) (a16 : Addr) (f : Instr × Byte),
    (f ∈ formsAnd s d8 a16 → ∃ r : Byte, (∀ k, r.getLsbD k = (s.a.getLsbD k && f.2.getLsbD k)) ∧
      exec f.1 s = .next { s with a := r, p := { s.p with n := r.getLsbD 7, z := decide (r = 0) } }) ∧
    (f ∈ formsOra s d8 a16 → ∃ r : Byte, (∀ k, r.getLsbD k = (s.a.getLsbD k || f.2.getLsbD k)) ∧
      exec f.1 s = .next { s with a := r, p := { s.p with n := r.getLsbD 7, z := decide (r = 0) } }) ∧
    (f ∈ formsEor s d8 a16 → ∃ r : Byte, (∀ k, r.getLsbD k = (s.a.getLsbD k ^^ f.2.getLsbD k)) ∧
      exec f.1 s = .next { s with a := r, p := { s.p with n := r.getLsbD 7, z := decide (r = 0) } })

/-- R179 to R182. -/
def Obligations.ComparesSetCZN : Prop :=
  (∀ (s : State) (d8 : Byte) (a16 : Addr),
      (formsCmp s d8 a16).map (fun f => f.1.opcode) = [0xC9, 0xC5, 0xD5, 0xCD, 0xDD, 0xD9, 0xC1, 0xD1] ∧
      (formsCpx s d8 a16).map (fun f => f.1.opcode) = [0xE0, 0xE4, 0xEC] ∧
      (formsCpy s d8 a16).map (fun f => f.1.opcode) = [0xC0, 0xC4, 0xCC]) ∧
  ∀ (s : State) (d8 : Byte) (a16 : Addr) (f : Instr × Byte),
    (f ∈ formsCmp s d8 a16 → exec f.1 s = .next { s with p := { s.p with
      c := decide (f.2.toNat ≤ s.a.toNat)
      z := decide (s.a = f.2)
      n := (BitVec.ofNat 8 (s.a.toNat + 256 - f.2.toNat)).getLsbD 7 } }) ∧
    (f ∈ formsCpx s d8 a16 → exec f.1 s = .next { s with p := { s.p with
      c := decide (f.2.toNat ≤ s.x.toNat)
      z := decide (s.x = f.2)
      n := (BitVec.ofNat 8 (s.x.toNat + 256 - f.2.toNat)).getLsbD 7 } }) ∧
    (f ∈ formsCpy s d8 a16 → exec f.1 s = .next { s with p := { s.p with
      c := decide (f.2.toNat ≤ s.y.toNat)
      z := decide (s.y = f.2)
      n := (BitVec.ofNat 8 (s.y.toNat + 256 - f.2.toNat)).getLsbD 7 } })

/-- R183. -/
def Obligations.BitTestsMemoryAgainstA : Prop :=
  (∀ (s : State) (d8 : Byte) (a16 : Addr),
      (formsBit s d8 a16).map (fun f => f.1.opcode) = [0x24, 0x2C]) ∧
  ∀ (s : State) (d8 : Byte) (a16 : Addr) (f : Instr × Byte), f ∈ formsBit s d8 a16 →
    exec f.1 s = .next { s with p := { s.p with
      z := decide (∀ k : Fin 8, (s.a.getLsbD k.val && f.2.getLsbD k.val) = false)
      n := f.2.getLsbD 7
      v := f.2.getLsbD 6 } }

/-- R184, R185. -/
def Obligations.IncDecMemoryWrapAndSetNZ : Prop :=
  (∀ (d8 : Byte) (a16 : Addr),
      (formsInc d8 a16).map (fun f => f.1.opcode) = [0xE6, 0xF6, 0xEE, 0xFE] ∧
      (formsDec d8 a16).map (fun f => f.1.opcode) = [0xC6, 0xD6, 0xCE, 0xDE]) ∧
  ∀ (s : State) (d8 : Byte) (a16 : Addr) (f : Instr × MemOperand),
    (f ∈ formsInc d8 a16 →
      let r := BitVec.ofNat 8 ((memRead s (ea s f.2)).toNat + 1)
      exec f.1 s = .next { memWrite s (ea s f.2) r with
        p := { s.p with n := r.getLsbD 7, z := decide (r = 0) } }) ∧
    (f ∈ formsDec d8 a16 →
      let r := BitVec.ofNat 8 ((memRead s (ea s f.2)).toNat + 255)
      exec f.1 s = .next { memWrite s (ea s f.2) r with
        p := { s.p with n := r.getLsbD 7, z := decide (r = 0) } })

/-- R186 to R189. -/
def Obligations.IndexIncDecWrapAndSetNZ : Prop :=
  ([.inx, .iny, .dex, .dey] : List Instr).map Instr.opcode =
      [0xE8, 0xC8, 0xCA, 0x88] ∧
  ∀ s : State,
    (let r := BitVec.ofNat 8 (s.x.toNat + 1)
     exec .inx s = .next { s with x := r, p := { s.p with n := r.getLsbD 7, z := decide (r = 0) } }) ∧
    (let r := BitVec.ofNat 8 (s.y.toNat + 1)
     exec .iny s = .next { s with y := r, p := { s.p with n := r.getLsbD 7, z := decide (r = 0) } }) ∧
    (let r := BitVec.ofNat 8 (s.x.toNat + 255)
     exec .dex s = .next { s with x := r, p := { s.p with n := r.getLsbD 7, z := decide (r = 0) } }) ∧
    (let r := BitVec.ofNat 8 (s.y.toNat + 255)
     exec .dey s = .next { s with y := r, p := { s.p with n := r.getLsbD 7, z := decide (r = 0) } })

/-- R200 to R204; the `Spec` functions of Safety.lean are the rules' exact arithmetic. -/
def Obligations.ShiftsFollowTheirRules : Prop :=
  (∀ (d8 : Byte) (a16 : Addr),
      Instr.aslAcc.opcode = 0x0A ∧ (formsAsl d8 a16).map (fun f => f.1.opcode) = [0x06, 0x16, 0x0E, 0x1E] ∧
      Instr.lsrAcc.opcode = 0x4A ∧ (formsLsr d8 a16).map (fun f => f.1.opcode) = [0x46, 0x56, 0x4E, 0x5E] ∧
      Instr.rolAcc.opcode = 0x2A ∧ (formsRol d8 a16).map (fun f => f.1.opcode) = [0x26, 0x36, 0x2E, 0x3E] ∧
      Instr.rorAcc.opcode = 0x6A ∧ (formsRor d8 a16).map (fun f => f.1.opcode) = [0x66, 0x76, 0x6E, 0x7E]) ∧
  (∀ s : State,
    exec .aslAcc s = .next { s with
      a := (aslSpec s.a s.p.c).1
      p := { s.p with
        n := (aslSpec s.a s.p.c).1.getLsbD 7
        z := decide ((aslSpec s.a s.p.c).1 = 0)
        c := (aslSpec s.a s.p.c).2 } } ∧
    exec .lsrAcc s = .next { s with
      a := (lsrSpec s.a s.p.c).1
      p := { s.p with
        n := (lsrSpec s.a s.p.c).1.getLsbD 7
        z := decide ((lsrSpec s.a s.p.c).1 = 0)
        c := (lsrSpec s.a s.p.c).2 } } ∧
    exec .rolAcc s = .next { s with
      a := (rolSpec s.a s.p.c).1
      p := { s.p with
        n := (rolSpec s.a s.p.c).1.getLsbD 7
        z := decide ((rolSpec s.a s.p.c).1 = 0)
        c := (rolSpec s.a s.p.c).2 } } ∧
    exec .rorAcc s = .next { s with
      a := (rorSpec s.a s.p.c).1
      p := { s.p with
        n := (rorSpec s.a s.p.c).1.getLsbD 7
        z := decide ((rorSpec s.a s.p.c).1 = 0)
        c := (rorSpec s.a s.p.c).2 } }) ∧
  ∀ (s : State) (d8 : Byte) (a16 : Addr) (f : Instr × MemOperand),
    (f ∈ formsAsl d8 a16 →
      let k := aslSpec (memRead s (ea s f.2)) s.p.c
      exec f.1 s = .next { memWrite s (ea s f.2) k.1 with
        p := { s.p with n := k.1.getLsbD 7, z := decide (k.1 = 0), c := k.2 } }) ∧
    (f ∈ formsLsr d8 a16 →
      let k := lsrSpec (memRead s (ea s f.2)) s.p.c
      exec f.1 s = .next { memWrite s (ea s f.2) k.1 with
        p := { s.p with n := k.1.getLsbD 7, z := decide (k.1 = 0), c := k.2 } }) ∧
    (f ∈ formsRol d8 a16 →
      let k := rolSpec (memRead s (ea s f.2)) s.p.c
      exec f.1 s = .next { memWrite s (ea s f.2) k.1 with
        p := { s.p with n := k.1.getLsbD 7, z := decide (k.1 = 0), c := k.2 } }) ∧
    (f ∈ formsRor d8 a16 →
      let k := rorSpec (memRead s (ea s f.2)) s.p.c
      exec f.1 s = .next { memWrite s (ea s f.2) k.1 with
        p := { s.p with n := k.1.getLsbD 7, z := decide (k.1 = 0), c := k.2 } })

/-- R113, R211. -/
def Obligations.JumpsSetPc : Prop :=
  ([.jmpAbs 0, .jmpInd 0] : List Instr).map Instr.opcode = [0x4C, 0x6C] ∧
  ∀ (s : State) (a16 : Addr),
    exec (.jmpAbs a16) s = .next { s with pc := a16 } ∧
    (let wrap := a16.toNat / 256 * 256 + (a16.toNat + 1) % 256
     let next := (a16.toNat + 1) % 65536
     exec (.jmpInd a16) s = .next { s with
       pc := wordOf (memRead s (BitVec.ofNat 16 (if s.config.jmpIndPageWrap then wrap else next))) (memRead s a16) } ∧
     (a16.toNat % 256 ≠ 255 → wrap = next))

/-- R212, R213. -/
def Obligations.CallAndReturnUseTheStack : Prop :=
  ([.jsr 0, .rts] : List Instr).map Instr.opcode =
      [0x20, 0x60] ∧
  ∀ (s : State) (a16 : Addr),
    (let ret := BitVec.ofNat 16 (s.pc.toNat + 65535)
     let s1 := memWrite s (0x0100 + zext s.sp) (hiByte ret)
     let s2 := memWrite s1 (0x0100 + zext (s.sp - 1)) (loByte ret)
     exec (.jsr a16) s = .next { s2 with sp := s.sp - 2, pc := a16 }) ∧
    (let lo := (memRead s (0x0100 + zext (s.sp + 1))).toNat
     let hi := (memRead s (0x0100 + zext (s.sp + 2))).toNat
     exec .rts s = .next { s with sp := s.sp + 2, pc := BitVec.ofNat 16 (hi * 256 + lo + 1) })

/-- R214 to R222. -/
def Obligations.BranchesGoWhenTheirFlagSaysSo : Prop :=
  ([.bcc 0, .bcs 0, .beq 0, .bne 0, .bmi 0, .bpl 0, .bvc 0, .bvs 0] : List Instr).map Instr.opcode =
      [0x90, 0xB0, 0xF0, 0xD0, 0x30, 0x10, 0x50, 0x70] ∧
  ∀ (s : State) (rel : Byte) (f : Instr × Bool), f ∈ branchTable s.p rel →
    exec f.1 s = .next { s with
      pc := if f.2 then BitVec.ofInt 16 (((s.pc.toNat : Int) + rel.toInt) % 65536) else s.pc }

/-- R231 to R237, R240. That the new I is what the next step tests (R233, R234) is StepRunsTheInstructionAtPc and InterruptsAreTakenByPriority. -/
def Obligations.FlagInstructionsWriteOneFlag : Prop :=
  ([.clc, .sec, .cli, .sei, .cld, .sed, .clv, .nop] : List Instr).map Instr.opcode =
      [0x18, 0x38, 0x58, 0x78, 0xD8, 0xF8, 0xB8, 0xEA] ∧
  ∀ s : State,
    exec .clc s = .next { s with p := { s.p with c := false } } ∧
    exec .sec s = .next { s with p := { s.p with c := true } } ∧
    exec .cli s = .next { s with p := { s.p with i := false } } ∧
    exec .sei s = .next { s with p := { s.p with i := true } } ∧
    exec .cld s = .next { s with p := { s.p with d := false } } ∧
    exec .sed s = .next { s with p := { s.p with d := true } } ∧
    exec .clv s = .next { s with p := { s.p with v := false } } ∧
    exec .nop s = .next s

/-- R238. -/
def Obligations.BrkTakesTheSoftwareInterrupt : Prop :=
  ([.brk] : List Instr).map Instr.opcode =
      [0x00] ∧
  ∀ s : State,
    let ret := BitVec.ofNat 16 (s.pc.toNat + 1)
    let s1 := memWrite s (0x0100 + zext s.sp) (hiByte ret)
    let s2 := memWrite s1 (0x0100 + zext (s.sp - 1)) (loByte ret)
    let s3 := memWrite s2 (0x0100 + zext (s.sp - 2)) (s.p.toByte true)
    exec .brk s = .next { s3 with sp := s.sp - 3, p := { s.p with i := true }, pc := memRead16 s3 0xFFFE }

/-- R239. (What RTI gives back after an entry is RtiUndoesInterruptEntry.) -/
def Obligations.RtiPullsStatusAndPc : Prop :=
  ([.rti] : List Instr).map Instr.opcode =
      [0x40] ∧
  ∀ s : State,
    let b := memRead s (0x0100 + zext (s.sp + 1))
    exec .rti s = .next { s with
      sp := s.sp + 3
      p := { n := b.getLsbD 7, v := b.getLsbD 6, d := b.getLsbD 3, i := b.getLsbD 2, z := b.getLsbD 1, c := b.getLsbD 0 }
      pc := wordOf (memRead s (0x0100 + zext (s.sp + 3))) (memRead s (0x0100 + zext (s.sp + 2))) }

/-- The frame of the instructions that push (R160, R162, R163, R212, R238). -/
def Obligations.StackFormsChangeOnlyTheirStackBytes : Prop :=
  ∀ (s t : State) (a16 : Addr) (f : Instr × Nat), f ∈ [(.pha, 1), (.php, 1), (.jsr a16, 2), (.brk, 3)] →
    exec f.1 s = .next t →
    t.a = s.a ∧ t.x = s.x ∧ t.y = s.y ∧ t.freeCount = s.freeCount ∧
    (f.1 ≠ .brk → t.p = s.p) ∧ (f.1 = .brk → t.p = { s.p with i := true }) ∧
    t.sp = s.sp - BitVec.ofNat 8 f.2 ∧
    (StackIsRam s → t.ic = s.ic ∧ t.kbd = s.kbd ∧ t.crtc = s.crtc) ∧
    (∀ a : Addr, (∀ k, k < f.2 → a ≠ 0x0100 + zext (s.sp - BitVec.ofNat 8 k)) → isMemory s a = true →
      memRead t a = memRead s a)

/-- R38, R281, R282. That the host inputs stand in State as a list, one entry a boundary, is the model's choice (log entry 2), and so is that a level-triggered source's condition is held in the state, set from what is supplied and kept when nothing is (log entry 10). -/
def Obligations.HostInputsTakeEffectAtTheBoundary : Prop :=
  ∀ s : State,
    (s.inputs = [] → deliverInputs s = s) ∧
    (∀ (h : HostInput) (rest : List HostInput), s.inputs = h :: rest →
      let t := deliverInputs s
      t.matrix = h.matrix.getD s.matrix ∧
      t.ic.crtc = (s.ic.crtc || h.crtcEvent) ∧ t.ic.nmiExt = (s.ic.nmiExt || h.nmiEvent) ∧
      (∀ (k : Nat) (e : ExtraSource) (f : Bool), s.config.extraSources[k]? = some e → s.ic.extra[k]? = some f →
        t.ic.extra[k]? = some (match h.extra[k]? with
          | none => f
          | some b => if e.trigger = .edge then f || b else b)) ∧
      t = { s with matrix := t.matrix, ic := t.ic, inputs := rest })

/-- The "written by" column of R26 over the instructions (interrupt entry and reset, which it also names, are not instructions). -/
def Obligations.FlagsAreWrittenOnlyByTheListedInstructions : Prop :=
  ∀ (i : Instr) (s t : State), exec i s = .next t →
    (mnemonicOf i ∉ ["ADC", "SBC", "CMP", "CPX", "CPY", "ASL", "LSR", "ROL", "ROR", "CLC", "SEC", "PLP", "RTI"] →
      t.p.c = s.p.c) ∧
    (mnemonicOf i ∉ ["LDA", "LDX", "LDY", "TAX", "TAY", "TXA", "TYA", "TSX", "PLA", "ADC", "SBC", "AND", "ORA", "EOR", "CMP", "CPX", "CPY",
        "BIT", "INC", "DEC", "INX", "INY", "DEX", "DEY", "ASL", "LSR", "ROL", "ROR", "PLP", "RTI"] →
      t.p.z = s.p.z ∧ t.p.n = s.p.n) ∧
    (mnemonicOf i ∉ ["SEI", "CLI", "PLP", "RTI", "BRK"] → t.p.i = s.p.i) ∧
    (mnemonicOf i ∉ ["SED", "CLD", "PLP", "RTI"] → t.p.d = s.p.d) ∧
    (mnemonicOf i ∉ ["ADC", "SBC", "BIT", "CLV", "PLP", "RTI"] → t.p.v = s.p.v)

/-- The writers that R21 to R24 list. -/
def Obligations.RegistersAreWrittenOnlyByTheListedInstructions : Prop :=
  ∀ (i : Instr) (s t : State), exec i s = .next t →
    (mnemonicOf i ∉ ["ADC", "SBC", "AND", "ORA", "EOR", "LDA", "PLA", "TXA", "TYA", "ASL", "LSR", "ROL", "ROR"] ∨
      storesToMemory i = true → t.a = s.a) ∧
    (mnemonicOf i ∉ ["LDX", "TAX", "TSX", "INX", "DEX"] → t.x = s.x) ∧
    (mnemonicOf i ∉ ["LDY", "TAY", "INY", "DEY"] → t.y = s.y) ∧
    (mnemonicOf i ∉ ["PHA", "PHP", "PLA", "PLP", "JSR", "RTS", "BRK", "RTI", "TXS"] → t.sp = s.sp) ∧
    (mnemonicOf i ∉ ["JMP", "JSR", "RTS", "BCC", "BCS", "BEQ", "BNE", "BMI", "BPL", "BVC", "BVS", "BRK", "RTI"] →
      t.pc = s.pc)

/-- R76 (d): peripherals change only by a bus write, the tick, or a host input; and the frame of every form that stores nothing. -/
def Obligations.InstructionsLeaveTheOutsideAlone : Prop :=
  ∀ (i : Instr) (s t : State), exec i s = .next t →
    t.config = s.config ∧ t.matrix = s.matrix ∧ t.inputs = s.inputs ∧ t.halted = s.halted ∧ t.cycles = s.cycles ∧
    t.kbd.scanRow = s.kbd.scanRow ∧ t.kbd.tick = s.kbd.tick ∧ t.ic.nmiExt = s.ic.nmiExt ∧
    (storesToMemory i = false →
      t.mem = s.mem ∧ t.ic = s.ic ∧ t.kbd = s.kbd ∧ t.crtc = s.crtc ∧ ∀ a : Addr, memRead t a = memRead s a)

/-- R360 with R117 and R214; cyclesOf is taken in the state with PC past the instruction. -/
def Obligations.CycleCountsFollowTheTable : Prop :=
  (∀ (s : State) (d8 : Byte) (a16 : Addr),
      (∀ row ∈ fixedCycleTable d8 a16, ∀ i ∈ row.2, cyclesOf i s = row.1) ∧
      (∀ row ∈ indexedCycleTable s d8 a16, cyclesOf row.2.1 s =
        row.1 + (if 256 ≤ (loByte row.2.2.1).toNat + row.2.2.2.toNat then 1 else 0)) ∧
      (∀ f ∈ branchTable s.p d8, cyclesOf f.1 s =
        if f.2 then (if hiByte s.pc = hiByte (s.pc + sext d8) then 3 else 4) else 2)) ∧
    (∀ (i : Instr) (s : State), 2 ≤ cyclesOf i s ∧ cyclesOf i s ≤ 7) ∧
    (∀ s t : State, step s = .next t → s.cycles + 2 ≤ t.cycles ∧ t.cycles ≤ s.cycles + 7)
end

