-- ==== Sys2Proof/Laws/Decode.lean ====
section
/-! SUPPORT. The opcode map read off, one lemma per defined opcode byte (spec/30_encoding.md R120): what `findRow` answers for
it. Proofs about decoding and timing rewrite with these and never unfold the map. -/

namespace Sys2Proof

@[simp] theorem findRow_00 : findRow 0x00#8 =
    some ⟨0x00, "BRK", .imp, 7, .fixed, fun _ _ => .brk⟩ := by rfl
@[simp] theorem findRow_01 : findRow 0x01#8 =
    some ⟨0x01, "ORA", .indx, 6, .fixed, fun b1 _ => .oraIndx b1⟩ := by rfl
@[simp] theorem findRow_05 : findRow 0x05#8 =
    some ⟨0x05, "ORA", .zp, 3, .fixed, fun b1 _ => .oraZp b1⟩ := by rfl
@[simp] theorem findRow_06 : findRow 0x06#8 =
    some ⟨0x06, "ASL", .zp, 5, .fixed, fun b1 _ => .aslZp b1⟩ := by rfl
@[simp] theorem findRow_08 : findRow 0x08#8 =
    some ⟨0x08, "PHP", .imp, 3, .fixed, fun _ _ => .php⟩ := by rfl
@[simp] theorem findRow_09 : findRow 0x09#8 =
    some ⟨0x09, "ORA", .imm, 2, .fixed, fun b1 _ => .oraImm b1⟩ := by rfl
@[simp] theorem findRow_0A : findRow 0x0A#8 =
    some ⟨0x0A, "ASL", .acc, 2, .fixed, fun _ _ => .aslAcc⟩ := by rfl
@[simp] theorem findRow_0D : findRow 0x0D#8 =
    some ⟨0x0D, "ORA", .abs, 4, .fixed, fun b1 b2 => .oraAbs (wordOf b2 b1)⟩ := by rfl
@[simp] theorem findRow_0E : findRow 0x0E#8 =
    some ⟨0x0E, "ASL", .abs, 6, .fixed, fun b1 b2 => .aslAbs (wordOf b2 b1)⟩ := by rfl
@[simp] theorem findRow_10 : findRow 0x10#8 =
    some ⟨0x10, "BPL", .rel, 2, .branch .pl, fun b1 _ => .bpl b1⟩ := by rfl
@[simp] theorem findRow_11 : findRow 0x11#8 =
    some ⟨0x11, "ORA", .indy, 5, .pageCross, fun b1 _ => .oraIndy b1⟩ := by rfl
@[simp] theorem findRow_15 : findRow 0x15#8 =
    some ⟨0x15, "ORA", .zpx, 4, .fixed, fun b1 _ => .oraZpx b1⟩ := by rfl
@[simp] theorem findRow_16 : findRow 0x16#8 =
    some ⟨0x16, "ASL", .zpx, 6, .fixed, fun b1 _ => .aslZpx b1⟩ := by rfl
@[simp] theorem findRow_18 : findRow 0x18#8 =
    some ⟨0x18, "CLC", .imp, 2, .fixed, fun _ _ => .clc⟩ := by rfl
@[simp] theorem findRow_19 : findRow 0x19#8 =
    some ⟨0x19, "ORA", .absy, 4, .pageCross, fun b1 b2 => .oraAbsy (wordOf b2 b1)⟩ := by rfl
@[simp] theorem findRow_1D : findRow 0x1D#8 =
    some ⟨0x1D, "ORA", .absx, 4, .pageCross, fun b1 b2 => .oraAbsx (wordOf b2 b1)⟩ := by rfl
@[simp] theorem findRow_1E : findRow 0x1E#8 =
    some ⟨0x1E, "ASL", .absx, 7, .fixed, fun b1 b2 => .aslAbsx (wordOf b2 b1)⟩ := by rfl
@[simp] theorem findRow_20 : findRow 0x20#8 =
    some ⟨0x20, "JSR", .abs, 6, .fixed, fun b1 b2 => .jsr (wordOf b2 b1)⟩ := by rfl
@[simp] theorem findRow_21 : findRow 0x21#8 =
    some ⟨0x21, "AND", .indx, 6, .fixed, fun b1 _ => .andIndx b1⟩ := by rfl
@[simp] theorem findRow_24 : findRow 0x24#8 =
    some ⟨0x24, "BIT", .zp, 3, .fixed, fun b1 _ => .bitZp b1⟩ := by rfl
@[simp] theorem findRow_25 : findRow 0x25#8 =
    some ⟨0x25, "AND", .zp, 3, .fixed, fun b1 _ => .andZp b1⟩ := by rfl
@[simp] theorem findRow_26 : findRow 0x26#8 =
    some ⟨0x26, "ROL", .zp, 5, .fixed, fun b1 _ => .rolZp b1⟩ := by rfl
@[simp] theorem findRow_28 : findRow 0x28#8 =
    some ⟨0x28, "PLP", .imp, 4, .fixed, fun _ _ => .plp⟩ := by rfl
@[simp] theorem findRow_29 : findRow 0x29#8 =
    some ⟨0x29, "AND", .imm, 2, .fixed, fun b1 _ => .andImm b1⟩ := by rfl
@[simp] theorem findRow_2A : findRow 0x2A#8 =
    some ⟨0x2A, "ROL", .acc, 2, .fixed, fun _ _ => .rolAcc⟩ := by rfl
@[simp] theorem findRow_2C : findRow 0x2C#8 =
    some ⟨0x2C, "BIT", .abs, 4, .fixed, fun b1 b2 => .bitAbs (wordOf b2 b1)⟩ := by rfl
@[simp] theorem findRow_2D : findRow 0x2D#8 =
    some ⟨0x2D, "AND", .abs, 4, .fixed, fun b1 b2 => .andAbs (wordOf b2 b1)⟩ := by rfl
@[simp] theorem findRow_2E : findRow 0x2E#8 =
    some ⟨0x2E, "ROL", .abs, 6, .fixed, fun b1 b2 => .rolAbs (wordOf b2 b1)⟩ := by rfl
@[simp] theorem findRow_30 : findRow 0x30#8 =
    some ⟨0x30, "BMI", .rel, 2, .branch .mi, fun b1 _ => .bmi b1⟩ := by rfl
@[simp] theorem findRow_31 : findRow 0x31#8 =
    some ⟨0x31, "AND", .indy, 5, .pageCross, fun b1 _ => .andIndy b1⟩ := by rfl
@[simp] theorem findRow_35 : findRow 0x35#8 =
    some ⟨0x35, "AND", .zpx, 4, .fixed, fun b1 _ => .andZpx b1⟩ := by rfl
@[simp] theorem findRow_36 : findRow 0x36#8 =
    some ⟨0x36, "ROL", .zpx, 6, .fixed, fun b1 _ => .rolZpx b1⟩ := by rfl
@[simp] theorem findRow_38 : findRow 0x38#8 =
    some ⟨0x38, "SEC", .imp, 2, .fixed, fun _ _ => .sec⟩ := by rfl
@[simp] theorem findRow_39 : findRow 0x39#8 =
    some ⟨0x39, "AND", .absy, 4, .pageCross, fun b1 b2 => .andAbsy (wordOf b2 b1)⟩ := by rfl
@[simp] theorem findRow_3D : findRow 0x3D#8 =
    some ⟨0x3D, "AND", .absx, 4, .pageCross, fun b1 b2 => .andAbsx (wordOf b2 b1)⟩ := by rfl
@[simp] theorem findRow_3E : findRow 0x3E#8 =
    some ⟨0x3E, "ROL", .absx, 7, .fixed, fun b1 b2 => .rolAbsx (wordOf b2 b1)⟩ := by rfl
@[simp] theorem findRow_40 : findRow 0x40#8 =
    some ⟨0x40, "RTI", .imp, 6, .fixed, fun _ _ => .rti⟩ := by rfl
@[simp] theorem findRow_41 : findRow 0x41#8 =
    some ⟨0x41, "EOR", .indx, 6, .fixed, fun b1 _ => .eorIndx b1⟩ := by rfl
@[simp] theorem findRow_45 : findRow 0x45#8 =
    some ⟨0x45, "EOR", .zp, 3, .fixed, fun b1 _ => .eorZp b1⟩ := by rfl
@[simp] theorem findRow_46 : findRow 0x46#8 =
    some ⟨0x46, "LSR", .zp, 5, .fixed, fun b1 _ => .lsrZp b1⟩ := by rfl
@[simp] theorem findRow_48 : findRow 0x48#8 =
    some ⟨0x48, "PHA", .imp, 3, .fixed, fun _ _ => .pha⟩ := by rfl
@[simp] theorem findRow_49 : findRow 0x49#8 =
    some ⟨0x49, "EOR", .imm, 2, .fixed, fun b1 _ => .eorImm b1⟩ := by rfl
@[simp] theorem findRow_4A : findRow 0x4A#8 =
    some ⟨0x4A, "LSR", .acc, 2, .fixed, fun _ _ => .lsrAcc⟩ := by rfl
@[simp] theorem findRow_4C : findRow 0x4C#8 =
    some ⟨0x4C, "JMP", .abs, 3, .fixed, fun b1 b2 => .jmpAbs (wordOf b2 b1)⟩ := by rfl
@[simp] theorem findRow_4D : findRow 0x4D#8 =
    some ⟨0x4D, "EOR", .abs, 4, .fixed, fun b1 b2 => .eorAbs (wordOf b2 b1)⟩ := by rfl
@[simp] theorem findRow_4E : findRow 0x4E#8 =
    some ⟨0x4E, "LSR", .abs, 6, .fixed, fun b1 b2 => .lsrAbs (wordOf b2 b1)⟩ := by rfl
@[simp] theorem findRow_50 : findRow 0x50#8 =
    some ⟨0x50, "BVC", .rel, 2, .branch .vc, fun b1 _ => .bvc b1⟩ := by rfl
@[simp] theorem findRow_51 : findRow 0x51#8 =
    some ⟨0x51, "EOR", .indy, 5, .pageCross, fun b1 _ => .eorIndy b1⟩ := by rfl
@[simp] theorem findRow_55 : findRow 0x55#8 =
    some ⟨0x55, "EOR", .zpx, 4, .fixed, fun b1 _ => .eorZpx b1⟩ := by rfl
@[simp] theorem findRow_56 : findRow 0x56#8 =
    some ⟨0x56, "LSR", .zpx, 6, .fixed, fun b1 _ => .lsrZpx b1⟩ := by rfl
@[simp] theorem findRow_58 : findRow 0x58#8 =
    some ⟨0x58, "CLI", .imp, 2, .fixed, fun _ _ => .cli⟩ := by rfl
@[simp] theorem findRow_59 : findRow 0x59#8 =
    some ⟨0x59, "EOR", .absy, 4, .pageCross, fun b1 b2 => .eorAbsy (wordOf b2 b1)⟩ := by rfl
@[simp] theorem findRow_5D : findRow 0x5D#8 =
    some ⟨0x5D, "EOR", .absx, 4, .pageCross, fun b1 b2 => .eorAbsx (wordOf b2 b1)⟩ := by rfl
@[simp] theorem findRow_5E : findRow 0x5E#8 =
    some ⟨0x5E, "LSR", .absx, 7, .fixed, fun b1 b2 => .lsrAbsx (wordOf b2 b1)⟩ := by rfl
@[simp] theorem findRow_60 : findRow 0x60#8 =
    some ⟨0x60, "RTS", .imp, 6, .fixed, fun _ _ => .rts⟩ := by rfl
@[simp] theorem findRow_61 : findRow 0x61#8 =
    some ⟨0x61, "ADC", .indx, 6, .fixed, fun b1 _ => .adcIndx b1⟩ := by rfl
@[simp] theorem findRow_65 : findRow 0x65#8 =
    some ⟨0x65, "ADC", .zp, 3, .fixed, fun b1 _ => .adcZp b1⟩ := by rfl
@[simp] theorem findRow_66 : findRow 0x66#8 =
    some ⟨0x66, "ROR", .zp, 5, .fixed, fun b1 _ => .rorZp b1⟩ := by rfl
@[simp] theorem findRow_68 : findRow 0x68#8 =
    some ⟨0x68, "PLA", .imp, 4, .fixed, fun _ _ => .pla⟩ := by rfl
@[simp] theorem findRow_69 : findRow 0x69#8 =
    some ⟨0x69, "ADC", .imm, 2, .fixed, fun b1 _ => .adcImm b1⟩ := by rfl
@[simp] theorem findRow_6A : findRow 0x6A#8 =
    some ⟨0x6A, "ROR", .acc, 2, .fixed, fun _ _ => .rorAcc⟩ := by rfl
@[simp] theorem findRow_6C : findRow 0x6C#8 =
    some ⟨0x6C, "JMP", .ind, 5, .fixed, fun b1 b2 => .jmpInd (wordOf b2 b1)⟩ := by rfl
@[simp] theorem findRow_6D : findRow 0x6D#8 =
    some ⟨0x6D, "ADC", .abs, 4, .fixed, fun b1 b2 => .adcAbs (wordOf b2 b1)⟩ := by rfl
@[simp] theorem findRow_6E : findRow 0x6E#8 =
    some ⟨0x6E, "ROR", .abs, 6, .fixed, fun b1 b2 => .rorAbs (wordOf b2 b1)⟩ := by rfl
@[simp] theorem findRow_70 : findRow 0x70#8 =
    some ⟨0x70, "BVS", .rel, 2, .branch .vs, fun b1 _ => .bvs b1⟩ := by rfl
@[simp] theorem findRow_71 : findRow 0x71#8 =
    some ⟨0x71, "ADC", .indy, 5, .pageCross, fun b1 _ => .adcIndy b1⟩ := by rfl
@[simp] theorem findRow_75 : findRow 0x75#8 =
    some ⟨0x75, "ADC", .zpx, 4, .fixed, fun b1 _ => .adcZpx b1⟩ := by rfl
@[simp] theorem findRow_76 : findRow 0x76#8 =
    some ⟨0x76, "ROR", .zpx, 6, .fixed, fun b1 _ => .rorZpx b1⟩ := by rfl
@[simp] theorem findRow_78 : findRow 0x78#8 =
    some ⟨0x78, "SEI", .imp, 2, .fixed, fun _ _ => .sei⟩ := by rfl
@[simp] theorem findRow_79 : findRow 0x79#8 =
    some ⟨0x79, "ADC", .absy, 4, .pageCross, fun b1 b2 => .adcAbsy (wordOf b2 b1)⟩ := by rfl
@[simp] theorem findRow_7D : findRow 0x7D#8 =
    some ⟨0x7D, "ADC", .absx, 4, .pageCross, fun b1 b2 => .adcAbsx (wordOf b2 b1)⟩ := by rfl
@[simp] theorem findRow_7E : findRow 0x7E#8 =
    some ⟨0x7E, "ROR", .absx, 7, .fixed, fun b1 b2 => .rorAbsx (wordOf b2 b1)⟩ := by rfl
@[simp] theorem findRow_81 : findRow 0x81#8 =
    some ⟨0x81, "STA", .indx, 6, .fixed, fun b1 _ => .staIndx b1⟩ := by rfl
@[simp] theorem findRow_84 : findRow 0x84#8 =
    some ⟨0x84, "STY", .zp, 3, .fixed, fun b1 _ => .styZp b1⟩ := by rfl
@[simp] theorem findRow_85 : findRow 0x85#8 =
    some ⟨0x85, "STA", .zp, 3, .fixed, fun b1 _ => .staZp b1⟩ := by rfl
@[simp] theorem findRow_86 : findRow 0x86#8 =
    some ⟨0x86, "STX", .zp, 3, .fixed, fun b1 _ => .stxZp b1⟩ := by rfl
@[simp] theorem findRow_88 : findRow 0x88#8 =
    some ⟨0x88, "DEY", .imp, 2, .fixed, fun _ _ => .dey⟩ := by rfl
@[simp] theorem findRow_8A : findRow 0x8A#8 =
    some ⟨0x8A, "TXA", .imp, 2, .fixed, fun _ _ => .txa⟩ := by rfl
@[simp] theorem findRow_8C : findRow 0x8C#8 =
    some ⟨0x8C, "STY", .abs, 4, .fixed, fun b1 b2 => .styAbs (wordOf b2 b1)⟩ := by rfl
@[simp] theorem findRow_8D : findRow 0x8D#8 =
    some ⟨0x8D, "STA", .abs, 4, .fixed, fun b1 b2 => .staAbs (wordOf b2 b1)⟩ := by rfl
@[simp] theorem findRow_8E : findRow 0x8E#8 =
    some ⟨0x8E, "STX", .abs, 4, .fixed, fun b1 b2 => .stxAbs (wordOf b2 b1)⟩ := by rfl
@[simp] theorem findRow_90 : findRow 0x90#8 =
    some ⟨0x90, "BCC", .rel, 2, .branch .cc, fun b1 _ => .bcc b1⟩ := by rfl
@[simp] theorem findRow_91 : findRow 0x91#8 =
    some ⟨0x91, "STA", .indy, 6, .fixed, fun b1 _ => .staIndy b1⟩ := by rfl
@[simp] theorem findRow_94 : findRow 0x94#8 =
    some ⟨0x94, "STY", .zpx, 4, .fixed, fun b1 _ => .styZpx b1⟩ := by rfl
@[simp] theorem findRow_95 : findRow 0x95#8 =
    some ⟨0x95, "STA", .zpx, 4, .fixed, fun b1 _ => .staZpx b1⟩ := by rfl
@[simp] theorem findRow_96 : findRow 0x96#8 =
    some ⟨0x96, "STX", .zpy, 4, .fixed, fun b1 _ => .stxZpy b1⟩ := by rfl
@[simp] theorem findRow_98 : findRow 0x98#8 =
    some ⟨0x98, "TYA", .imp, 2, .fixed, fun _ _ => .tya⟩ := by rfl
@[simp] theorem findRow_99 : findRow 0x99#8 =
    some ⟨0x99, "STA", .absy, 5, .fixed, fun b1 b2 => .staAbsy (wordOf b2 b1)⟩ := by rfl
@[simp] theorem findRow_9A : findRow 0x9A#8 =
    some ⟨0x9A, "TXS", .imp, 2, .fixed, fun _ _ => .txs⟩ := by rfl
@[simp] theorem findRow_9D : findRow 0x9D#8 =
    some ⟨0x9D, "STA", .absx, 5, .fixed, fun b1 b2 => .staAbsx (wordOf b2 b1)⟩ := by rfl
@[simp] theorem findRow_A0 : findRow 0xA0#8 =
    some ⟨0xA0, "LDY", .imm, 2, .fixed, fun b1 _ => .ldyImm b1⟩ := by rfl
@[simp] theorem findRow_A1 : findRow 0xA1#8 =
    some ⟨0xA1, "LDA", .indx, 6, .fixed, fun b1 _ => .ldaIndx b1⟩ := by rfl
@[simp] theorem findRow_A2 : findRow 0xA2#8 =
    some ⟨0xA2, "LDX", .imm, 2, .fixed, fun b1 _ => .ldxImm b1⟩ := by rfl
@[simp] theorem findRow_A4 : findRow 0xA4#8 =
    some ⟨0xA4, "LDY", .zp, 3, .fixed, fun b1 _ => .ldyZp b1⟩ := by rfl
@[simp] theorem findRow_A5 : findRow 0xA5#8 =
    some ⟨0xA5, "LDA", .zp, 3, .fixed, fun b1 _ => .ldaZp b1⟩ := by rfl
@[simp] theorem findRow_A6 : findRow 0xA6#8 =
    some ⟨0xA6, "LDX", .zp, 3, .fixed, fun b1 _ => .ldxZp b1⟩ := by rfl
@[simp] theorem findRow_A8 : findRow 0xA8#8 =
    some ⟨0xA8, "TAY", .imp, 2, .fixed, fun _ _ => .tay⟩ := by rfl
@[simp] theorem findRow_A9 : findRow 0xA9#8 =
    some ⟨0xA9, "LDA", .imm, 2, .fixed, fun b1 _ => .ldaImm b1⟩ := by rfl
@[simp] theorem findRow_AA : findRow 0xAA#8 =
    some ⟨0xAA, "TAX", .imp, 2, .fixed, fun _ _ => .tax⟩ := by rfl
@[simp] theorem findRow_AC : findRow 0xAC#8 =
    some ⟨0xAC, "LDY", .abs, 4, .fixed, fun b1 b2 => .ldyAbs (wordOf b2 b1)⟩ := by rfl
@[simp] theorem findRow_AD : findRow 0xAD#8 =
    some ⟨0xAD, "LDA", .abs, 4, .fixed, fun b1 b2 => .ldaAbs (wordOf b2 b1)⟩ := by rfl
@[simp] theorem findRow_AE : findRow 0xAE#8 =
    some ⟨0xAE, "LDX", .abs, 4, .fixed, fun b1 b2 => .ldxAbs (wordOf b2 b1)⟩ := by rfl
@[simp] theorem findRow_B0 : findRow 0xB0#8 =
    some ⟨0xB0, "BCS", .rel, 2, .branch .cs, fun b1 _ => .bcs b1⟩ := by rfl
@[simp] theorem findRow_B1 : findRow 0xB1#8 =
    some ⟨0xB1, "LDA", .indy, 5, .pageCross, fun b1 _ => .ldaIndy b1⟩ := by rfl
@[simp] theorem findRow_B4 : findRow 0xB4#8 =
    some ⟨0xB4, "LDY", .zpx, 4, .fixed, fun b1 _ => .ldyZpx b1⟩ := by rfl
@[simp] theorem findRow_B5 : findRow 0xB5#8 =
    some ⟨0xB5, "LDA", .zpx, 4, .fixed, fun b1 _ => .ldaZpx b1⟩ := by rfl
@[simp] theorem findRow_B6 : findRow 0xB6#8 =
    some ⟨0xB6, "LDX", .zpy, 4, .fixed, fun b1 _ => .ldxZpy b1⟩ := by rfl
@[simp] theorem findRow_B8 : findRow 0xB8#8 =
    some ⟨0xB8, "CLV", .imp, 2, .fixed, fun _ _ => .clv⟩ := by rfl
@[simp] theorem findRow_B9 : findRow 0xB9#8 =
    some ⟨0xB9, "LDA", .absy, 4, .pageCross, fun b1 b2 => .ldaAbsy (wordOf b2 b1)⟩ := by rfl
@[simp] theorem findRow_BA : findRow 0xBA#8 =
    some ⟨0xBA, "TSX", .imp, 2, .fixed, fun _ _ => .tsx⟩ := by rfl
@[simp] theorem findRow_BC : findRow 0xBC#8 =
    some ⟨0xBC, "LDY", .absx, 4, .pageCross, fun b1 b2 => .ldyAbsx (wordOf b2 b1)⟩ := by rfl
@[simp] theorem findRow_BD : findRow 0xBD#8 =
    some ⟨0xBD, "LDA", .absx, 4, .pageCross, fun b1 b2 => .ldaAbsx (wordOf b2 b1)⟩ := by rfl
@[simp] theorem findRow_BE : findRow 0xBE#8 =
    some ⟨0xBE, "LDX", .absy, 4, .pageCross, fun b1 b2 => .ldxAbsy (wordOf b2 b1)⟩ := by rfl
@[simp] theorem findRow_C0 : findRow 0xC0#8 =
    some ⟨0xC0, "CPY", .imm, 2, .fixed, fun b1 _ => .cpyImm b1⟩ := by rfl
@[simp] theorem findRow_C1 : findRow 0xC1#8 =
    some ⟨0xC1, "CMP", .indx, 6, .fixed, fun b1 _ => .cmpIndx b1⟩ := by rfl
@[simp] theorem findRow_C4 : findRow 0xC4#8 =
    some ⟨0xC4, "CPY", .zp, 3, .fixed, fun b1 _ => .cpyZp b1⟩ := by rfl
@[simp] theorem findRow_C5 : findRow 0xC5#8 =
    some ⟨0xC5, "CMP", .zp, 3, .fixed, fun b1 _ => .cmpZp b1⟩ := by rfl
@[simp] theorem findRow_C6 : findRow 0xC6#8 =
    some ⟨0xC6, "DEC", .zp, 5, .fixed, fun b1 _ => .decZp b1⟩ := by rfl
@[simp] theorem findRow_C8 : findRow 0xC8#8 =
    some ⟨0xC8, "INY", .imp, 2, .fixed, fun _ _ => .iny⟩ := by rfl
@[simp] theorem findRow_C9 : findRow 0xC9#8 =
    some ⟨0xC9, "CMP", .imm, 2, .fixed, fun b1 _ => .cmpImm b1⟩ := by rfl
@[simp] theorem findRow_CA : findRow 0xCA#8 =
    some ⟨0xCA, "DEX", .imp, 2, .fixed, fun _ _ => .dex⟩ := by rfl
@[simp] theorem findRow_CC : findRow 0xCC#8 =
    some ⟨0xCC, "CPY", .abs, 4, .fixed, fun b1 b2 => .cpyAbs (wordOf b2 b1)⟩ := by rfl
@[simp] theorem findRow_CD : findRow 0xCD#8 =
    some ⟨0xCD, "CMP", .abs, 4, .fixed, fun b1 b2 => .cmpAbs (wordOf b2 b1)⟩ := by rfl
@[simp] theorem findRow_CE : findRow 0xCE#8 =
    some ⟨0xCE, "DEC", .abs, 6, .fixed, fun b1 b2 => .decAbs (wordOf b2 b1)⟩ := by rfl
@[simp] theorem findRow_D0 : findRow 0xD0#8 =
    some ⟨0xD0, "BNE", .rel, 2, .branch .ne, fun b1 _ => .bne b1⟩ := by rfl
@[simp] theorem findRow_D1 : findRow 0xD1#8 =
    some ⟨0xD1, "CMP", .indy, 5, .pageCross, fun b1 _ => .cmpIndy b1⟩ := by rfl
@[simp] theorem findRow_D5 : findRow 0xD5#8 =
    some ⟨0xD5, "CMP", .zpx, 4, .fixed, fun b1 _ => .cmpZpx b1⟩ := by rfl
@[simp] theorem findRow_D6 : findRow 0xD6#8 =
    some ⟨0xD6, "DEC", .zpx, 6, .fixed, fun b1 _ => .decZpx b1⟩ := by rfl
@[simp] theorem findRow_D8 : findRow 0xD8#8 =
    some ⟨0xD8, "CLD", .imp, 2, .fixed, fun _ _ => .cld⟩ := by rfl
@[simp] theorem findRow_D9 : findRow 0xD9#8 =
    some ⟨0xD9, "CMP", .absy, 4, .pageCross, fun b1 b2 => .cmpAbsy (wordOf b2 b1)⟩ := by rfl
@[simp] theorem findRow_DD : findRow 0xDD#8 =
    some ⟨0xDD, "CMP", .absx, 4, .pageCross, fun b1 b2 => .cmpAbsx (wordOf b2 b1)⟩ := by rfl
@[simp] theorem findRow_DE : findRow 0xDE#8 =
    some ⟨0xDE, "DEC", .absx, 7, .fixed, fun b1 b2 => .decAbsx (wordOf b2 b1)⟩ := by rfl
@[simp] theorem findRow_E0 : findRow 0xE0#8 =
    some ⟨0xE0, "CPX", .imm, 2, .fixed, fun b1 _ => .cpxImm b1⟩ := by rfl
@[simp] theorem findRow_E1 : findRow 0xE1#8 =
    some ⟨0xE1, "SBC", .indx, 6, .fixed, fun b1 _ => .sbcIndx b1⟩ := by rfl
@[simp] theorem findRow_E4 : findRow 0xE4#8 =
    some ⟨0xE4, "CPX", .zp, 3, .fixed, fun b1 _ => .cpxZp b1⟩ := by rfl
@[simp] theorem findRow_E5 : findRow 0xE5#8 =
    some ⟨0xE5, "SBC", .zp, 3, .fixed, fun b1 _ => .sbcZp b1⟩ := by rfl
@[simp] theorem findRow_E6 : findRow 0xE6#8 =
    some ⟨0xE6, "INC", .zp, 5, .fixed, fun b1 _ => .incZp b1⟩ := by rfl
@[simp] theorem findRow_E8 : findRow 0xE8#8 =
    some ⟨0xE8, "INX", .imp, 2, .fixed, fun _ _ => .inx⟩ := by rfl
@[simp] theorem findRow_E9 : findRow 0xE9#8 =
    some ⟨0xE9, "SBC", .imm, 2, .fixed, fun b1 _ => .sbcImm b1⟩ := by rfl
@[simp] theorem findRow_EA : findRow 0xEA#8 =
    some ⟨0xEA, "NOP", .imp, 2, .fixed, fun _ _ => .nop⟩ := by rfl
@[simp] theorem findRow_EC : findRow 0xEC#8 =
    some ⟨0xEC, "CPX", .abs, 4, .fixed, fun b1 b2 => .cpxAbs (wordOf b2 b1)⟩ := by rfl
@[simp] theorem findRow_ED : findRow 0xED#8 =
    some ⟨0xED, "SBC", .abs, 4, .fixed, fun b1 b2 => .sbcAbs (wordOf b2 b1)⟩ := by rfl
@[simp] theorem findRow_EE : findRow 0xEE#8 =
    some ⟨0xEE, "INC", .abs, 6, .fixed, fun b1 b2 => .incAbs (wordOf b2 b1)⟩ := by rfl
@[simp] theorem findRow_F0 : findRow 0xF0#8 =
    some ⟨0xF0, "BEQ", .rel, 2, .branch .eq, fun b1 _ => .beq b1⟩ := by rfl
@[simp] theorem findRow_F1 : findRow 0xF1#8 =
    some ⟨0xF1, "SBC", .indy, 5, .pageCross, fun b1 _ => .sbcIndy b1⟩ := by rfl
@[simp] theorem findRow_F5 : findRow 0xF5#8 =
    some ⟨0xF5, "SBC", .zpx, 4, .fixed, fun b1 _ => .sbcZpx b1⟩ := by rfl
@[simp] theorem findRow_F6 : findRow 0xF6#8 =
    some ⟨0xF6, "INC", .zpx, 6, .fixed, fun b1 _ => .incZpx b1⟩ := by rfl
@[simp] theorem findRow_F8 : findRow 0xF8#8 =
    some ⟨0xF8, "SED", .imp, 2, .fixed, fun _ _ => .sed⟩ := by rfl
@[simp] theorem findRow_F9 : findRow 0xF9#8 =
    some ⟨0xF9, "SBC", .absy, 4, .pageCross, fun b1 b2 => .sbcAbsy (wordOf b2 b1)⟩ := by rfl
@[simp] theorem findRow_FD : findRow 0xFD#8 =
    some ⟨0xFD, "SBC", .absx, 4, .pageCross, fun b1 b2 => .sbcAbsx (wordOf b2 b1)⟩ := by rfl
@[simp] theorem findRow_FE : findRow 0xFE#8 =
    some ⟨0xFE, "INC", .absx, 7, .fixed, fun b1 b2 => .incAbsx (wordOf b2 b1)⟩ := by rfl

/-- A row found is a row of that opcode. -/
theorem findRow_opcode {op : Byte} {r : OpRow} (h : findRow op = some r) : r.opcode = op := by
  simpa using List.find?_some h

/-! ### Words from bytes and back (spec/20_memory.md R70) -/

@[simp] theorem wordOf_hi_lo (w : Addr) : wordOf (hiByte w) (loByte w) = w := by
  apply BitVec.eq_of_toNat_eq
  simp only [wordOf, hiByte, loByte, BitVec.toNat_append, BitVec.toNat_setWidth, BitVec.toNat_ushiftRight]
  rw [← Nat.shiftLeft_add_eq_or_of_lt (by omega)]
  simp only [Nat.shiftLeft_eq, Nat.shiftRight_eq_div_pow]
  have := w.isLt
  omega

@[simp] theorem hiByte_wordOf (h l : Byte) : hiByte (wordOf h l) = h := by
  apply BitVec.eq_of_toNat_eq
  simp only [wordOf, hiByte, BitVec.toNat_append, BitVec.toNat_setWidth, BitVec.toNat_ushiftRight]
  rw [← Nat.shiftLeft_add_eq_or_of_lt l.isLt]
  simp only [Nat.shiftLeft_eq, Nat.shiftRight_eq_div_pow]
  have := h.isLt
  have := l.isLt
  omega

@[simp] theorem loByte_wordOf (h l : Byte) : loByte (wordOf h l) = l := by
  apply BitVec.eq_of_toNat_eq
  simp only [wordOf, loByte, BitVec.toNat_append, BitVec.toNat_setWidth]
  rw [← Nat.shiftLeft_add_eq_or_of_lt l.isLt]
  simp only [Nat.shiftLeft_eq]
  have := l.isLt
  omega

end Sys2Proof
end

