-- ==== Sys2Proof/Laws/Memory.lean ====
section
/-! SUPPORT. The laws of memory cells: read after write, and that a write keeps the canonical form, in which equal reads
mean equal lists. -/

namespace Sys2Proof.Machine.Memory

/-- A larger lower bound is a stronger claim. -/
theorem wfFrom_mono : ∀ {m : Memory} {lo hi : Nat}, lo ≤ hi → wfFrom hi m = true → wfFrom lo m = true
  | [], _, _, _, _ => rfl
  | (_, _) :: _, _, _, h, hw => by
    simp only [wfFrom, Bool.and_eq_true, decide_eq_true_eq] at hw ⊢
    exact ⟨⟨⟨h.trans hw.1.1.1, hw.1.1.2⟩, hw.1.2⟩, hw.2⟩

/-- Below its bound a canonical memory lists nothing. -/
theorem read_below : ∀ {m : Memory} {lo a : Nat}, wfFrom lo m = true → a < lo → m.read a = unlisted
  | [], _, _, _, _ => rfl
  | (k, w) :: m, lo, a, hw, ha => by
    simp only [wfFrom, Bool.and_eq_true, decide_eq_true_eq] at hw
    have hk : k ≠ a := by omega
    simp only [read, hk, if_false]
    exact read_below hw.2 (by omega)

/-- Reading another address gives what it gave. -/
theorem read_write_ne : ∀ (m : Memory) {a b : Nat} (v : Byte), a ≠ b → (m.write a v).read b = m.read b
  | [], a, b, v, h => by
    simp only [write]; split <;> simp [read, h]
  | (k, w) :: m, a, b, v, h => by
    simp only [write]
    split
    · split <;> simp [read, h]
    · split
      · rename_i hk; subst hk
        split <;> simp [read, h]
      · simp only [read]; split
        · rfl
        · exact read_write_ne m v h

theorem read_write_eq_from : ∀ {m : Memory} {lo a : Nat} (v : Byte), wfFrom lo m = true → (m.write a v).read a = v
  | [], _, a, v, _ => by
    simp only [write]; split <;> simp_all [read]
  | (k, w) :: m, lo, a, v, hw => by
    have hw' := hw
    simp only [wfFrom, Bool.and_eq_true, decide_eq_true_eq] at hw'
    simp only [write]
    split
    · rename_i hk
      split
      · rename_i hv
        rw [hv]
        have : k ≠ a := by omega
        simp only [read, this, if_false]
        exact read_below hw'.2 (by omega)
      · simp [read]
    · split
      · rename_i hk; subst hk
        split
        · rename_i hv
          rw [hv]; exact read_below hw'.2 (by omega)
        · simp [read]
      · rename_i h1 h2
        have : k ≠ a := fun h => h2 h.symm
        simp only [read, this, if_false]
        exact read_write_eq_from v hw'.2

/-- Reading the written address of a canonical memory gives the byte written. -/
theorem read_write_eq {m : Memory} {a : Nat} (v : Byte) (h : m.wf = true) : (m.write a v).read a = v :=
  read_write_eq_from v h

theorem write_wfFrom : ∀ {m : Memory} {lo a : Nat} (v : Byte), wfFrom lo m = true → lo ≤ a → a < 65536 →
    wfFrom lo (m.write a v) = true
  | [], lo, a, v, _, h, ha => by
    simp only [write]; split <;> simp_all [wfFrom]
  | (k, w) :: m, lo, a, v, hw, h, ha => by
    have hw' := hw
    simp only [wfFrom, Bool.and_eq_true, decide_eq_true_eq] at hw'
    simp only [write]
    split
    · split
      · exact hw
      · simp_all [wfFrom]
    · split
      · rename_i hk; subst hk
        split
        · exact wfFrom_mono (by omega) hw'.2
        · simp_all [wfFrom]
      · have := write_wfFrom (a := a) v hw'.2 (by omega) ha
        simp_all [wfFrom]

/-- A write keeps the canonical form. -/
theorem write_wf {m : Memory} {a : Nat} (v : Byte) (h : m.wf = true) (ha : a < 65536) : (m.write a v).wf = true :=
  write_wfFrom v h (Nat.zero_le _) ha

/-- The memory with no cell is canonical. -/
theorem wf_nil : Memory.wf [] = true := rfl

end Sys2Proof.Machine.Memory
end

