-- ==== Sys2Proof/Laws/State.lean ====
section
/-! SUPPORT. For each small operation on the state, what it leaves of every field and what it writes: one lemma per field,
true by rfl, so that no later proof unfolds a record update. -/

namespace Sys2Proof.Machine

/-! ### setNZ -/

@[simp] theorem setNZ_config (v : Byte) (s : State) : (setNZ v s).config = s.config := rfl
@[simp] theorem setNZ_a (v : Byte) (s : State) : (setNZ v s).a = s.a := rfl
@[simp] theorem setNZ_x (v : Byte) (s : State) : (setNZ v s).x = s.x := rfl
@[simp] theorem setNZ_y (v : Byte) (s : State) : (setNZ v s).y = s.y := rfl
@[simp] theorem setNZ_sp (v : Byte) (s : State) : (setNZ v s).sp = s.sp := rfl
@[simp] theorem setNZ_pc (v : Byte) (s : State) : (setNZ v s).pc = s.pc := rfl
@[simp] theorem setNZ_halted (v : Byte) (s : State) : (setNZ v s).halted = s.halted := rfl
@[simp] theorem setNZ_cycles (v : Byte) (s : State) : (setNZ v s).cycles = s.cycles := rfl
@[simp] theorem setNZ_mem (v : Byte) (s : State) : (setNZ v s).mem = s.mem := rfl
@[simp] theorem setNZ_ic (v : Byte) (s : State) : (setNZ v s).ic = s.ic := rfl
@[simp] theorem setNZ_kbd (v : Byte) (s : State) : (setNZ v s).kbd = s.kbd := rfl
@[simp] theorem setNZ_crtc (v : Byte) (s : State) : (setNZ v s).crtc = s.crtc := rfl
@[simp] theorem setNZ_matrix (v : Byte) (s : State) : (setNZ v s).matrix = s.matrix := rfl
@[simp] theorem setNZ_inputs (v : Byte) (s : State) : (setNZ v s).inputs = s.inputs := rfl
@[simp] theorem setNZ_freeCount (v : Byte) (s : State) : (setNZ v s).freeCount = s.freeCount := rfl
@[simp] theorem setNZ_p (v : Byte) (s : State) : (setNZ v s).p = s.p.withNZ v := rfl

/-! ### pulled -/

@[simp] theorem pulled_config (s : State) : (pulled s).config = s.config := rfl
@[simp] theorem pulled_a (s : State) : (pulled s).a = s.a := rfl
@[simp] theorem pulled_x (s : State) : (pulled s).x = s.x := rfl
@[simp] theorem pulled_y (s : State) : (pulled s).y = s.y := rfl
@[simp] theorem pulled_pc (s : State) : (pulled s).pc = s.pc := rfl
@[simp] theorem pulled_p (s : State) : (pulled s).p = s.p := rfl
@[simp] theorem pulled_halted (s : State) : (pulled s).halted = s.halted := rfl
@[simp] theorem pulled_cycles (s : State) : (pulled s).cycles = s.cycles := rfl
@[simp] theorem pulled_mem (s : State) : (pulled s).mem = s.mem := rfl
@[simp] theorem pulled_ic (s : State) : (pulled s).ic = s.ic := rfl
@[simp] theorem pulled_kbd (s : State) : (pulled s).kbd = s.kbd := rfl
@[simp] theorem pulled_crtc (s : State) : (pulled s).crtc = s.crtc := rfl
@[simp] theorem pulled_matrix (s : State) : (pulled s).matrix = s.matrix := rfl
@[simp] theorem pulled_inputs (s : State) : (pulled s).inputs = s.inputs := rfl
@[simp] theorem pulled_freeCount (s : State) : (pulled s).freeCount = s.freeCount := rfl
@[simp] theorem pulled_sp (s : State) : (pulled s).sp = s.sp + 1 := rfl

/-! ### advance -/

@[simp] theorem advance_config (i : Instr) (s : State) : (advance i s).config = s.config := rfl
@[simp] theorem advance_a (i : Instr) (s : State) : (advance i s).a = s.a := rfl
@[simp] theorem advance_x (i : Instr) (s : State) : (advance i s).x = s.x := rfl
@[simp] theorem advance_y (i : Instr) (s : State) : (advance i s).y = s.y := rfl
@[simp] theorem advance_sp (i : Instr) (s : State) : (advance i s).sp = s.sp := rfl
@[simp] theorem advance_p (i : Instr) (s : State) : (advance i s).p = s.p := rfl
@[simp] theorem advance_halted (i : Instr) (s : State) : (advance i s).halted = s.halted := rfl
@[simp] theorem advance_cycles (i : Instr) (s : State) : (advance i s).cycles = s.cycles := rfl
@[simp] theorem advance_mem (i : Instr) (s : State) : (advance i s).mem = s.mem := rfl
@[simp] theorem advance_ic (i : Instr) (s : State) : (advance i s).ic = s.ic := rfl
@[simp] theorem advance_kbd (i : Instr) (s : State) : (advance i s).kbd = s.kbd := rfl
@[simp] theorem advance_crtc (i : Instr) (s : State) : (advance i s).crtc = s.crtc := rfl
@[simp] theorem advance_matrix (i : Instr) (s : State) : (advance i s).matrix = s.matrix := rfl
@[simp] theorem advance_inputs (i : Instr) (s : State) : (advance i s).inputs = s.inputs := rfl
@[simp] theorem advance_freeCount (i : Instr) (s : State) : (advance i s).freeCount = s.freeCount := rfl
@[simp] theorem advance_pc (i : Instr) (s : State) : (advance i s).pc = s.pc + BitVec.ofNat 16 i.length := rfl

/-! ### nmiAcknowledge -/

@[simp] theorem nmiAcknowledge_config (s : State) : (nmiAcknowledge s).config = s.config := rfl
@[simp] theorem nmiAcknowledge_a (s : State) : (nmiAcknowledge s).a = s.a := rfl
@[simp] theorem nmiAcknowledge_x (s : State) : (nmiAcknowledge s).x = s.x := rfl
@[simp] theorem nmiAcknowledge_y (s : State) : (nmiAcknowledge s).y = s.y := rfl
@[simp] theorem nmiAcknowledge_sp (s : State) : (nmiAcknowledge s).sp = s.sp := rfl
@[simp] theorem nmiAcknowledge_pc (s : State) : (nmiAcknowledge s).pc = s.pc := rfl
@[simp] theorem nmiAcknowledge_p (s : State) : (nmiAcknowledge s).p = s.p := rfl
@[simp] theorem nmiAcknowledge_halted (s : State) : (nmiAcknowledge s).halted = s.halted := rfl
@[simp] theorem nmiAcknowledge_cycles (s : State) : (nmiAcknowledge s).cycles = s.cycles := rfl
@[simp] theorem nmiAcknowledge_mem (s : State) : (nmiAcknowledge s).mem = s.mem := rfl
@[simp] theorem nmiAcknowledge_kbd (s : State) : (nmiAcknowledge s).kbd = s.kbd := rfl
@[simp] theorem nmiAcknowledge_crtc (s : State) : (nmiAcknowledge s).crtc = s.crtc := rfl
@[simp] theorem nmiAcknowledge_matrix (s : State) : (nmiAcknowledge s).matrix = s.matrix := rfl
@[simp] theorem nmiAcknowledge_inputs (s : State) : (nmiAcknowledge s).inputs = s.inputs := rfl
@[simp] theorem nmiAcknowledge_freeCount (s : State) : (nmiAcknowledge s).freeCount = s.freeCount := rfl

/-! ### icAckWrite -/

@[simp] theorem icAckWrite_config (v : Byte) (s : State) : (icAckWrite v s).config = s.config := rfl
@[simp] theorem icAckWrite_a (v : Byte) (s : State) : (icAckWrite v s).a = s.a := rfl
@[simp] theorem icAckWrite_x (v : Byte) (s : State) : (icAckWrite v s).x = s.x := rfl
@[simp] theorem icAckWrite_y (v : Byte) (s : State) : (icAckWrite v s).y = s.y := rfl
@[simp] theorem icAckWrite_sp (v : Byte) (s : State) : (icAckWrite v s).sp = s.sp := rfl
@[simp] theorem icAckWrite_pc (v : Byte) (s : State) : (icAckWrite v s).pc = s.pc := rfl
@[simp] theorem icAckWrite_p (v : Byte) (s : State) : (icAckWrite v s).p = s.p := rfl
@[simp] theorem icAckWrite_halted (v : Byte) (s : State) : (icAckWrite v s).halted = s.halted := rfl
@[simp] theorem icAckWrite_cycles (v : Byte) (s : State) : (icAckWrite v s).cycles = s.cycles := rfl
@[simp] theorem icAckWrite_mem (v : Byte) (s : State) : (icAckWrite v s).mem = s.mem := rfl
@[simp] theorem icAckWrite_kbd (v : Byte) (s : State) : (icAckWrite v s).kbd = s.kbd := rfl
@[simp] theorem icAckWrite_crtc (v : Byte) (s : State) : (icAckWrite v s).crtc = s.crtc := rfl
@[simp] theorem icAckWrite_matrix (v : Byte) (s : State) : (icAckWrite v s).matrix = s.matrix := rfl
@[simp] theorem icAckWrite_inputs (v : Byte) (s : State) : (icAckWrite v s).inputs = s.inputs := rfl
@[simp] theorem icAckWrite_freeCount (v : Byte) (s : State) : (icAckWrite v s).freeCount = s.freeCount := rfl

/-! ### kbdCtrlWrite -/

@[simp] theorem kbdCtrlWrite_config (v : Byte) (s : State) : (kbdCtrlWrite v s).config = s.config := rfl
@[simp] theorem kbdCtrlWrite_a (v : Byte) (s : State) : (kbdCtrlWrite v s).a = s.a := rfl
@[simp] theorem kbdCtrlWrite_x (v : Byte) (s : State) : (kbdCtrlWrite v s).x = s.x := rfl
@[simp] theorem kbdCtrlWrite_y (v : Byte) (s : State) : (kbdCtrlWrite v s).y = s.y := rfl
@[simp] theorem kbdCtrlWrite_sp (v : Byte) (s : State) : (kbdCtrlWrite v s).sp = s.sp := rfl
@[simp] theorem kbdCtrlWrite_pc (v : Byte) (s : State) : (kbdCtrlWrite v s).pc = s.pc := rfl
@[simp] theorem kbdCtrlWrite_p (v : Byte) (s : State) : (kbdCtrlWrite v s).p = s.p := rfl
@[simp] theorem kbdCtrlWrite_halted (v : Byte) (s : State) : (kbdCtrlWrite v s).halted = s.halted := rfl
@[simp] theorem kbdCtrlWrite_cycles (v : Byte) (s : State) : (kbdCtrlWrite v s).cycles = s.cycles := rfl
@[simp] theorem kbdCtrlWrite_mem (v : Byte) (s : State) : (kbdCtrlWrite v s).mem = s.mem := rfl
@[simp] theorem kbdCtrlWrite_ic (v : Byte) (s : State) : (kbdCtrlWrite v s).ic = s.ic := rfl
@[simp] theorem kbdCtrlWrite_crtc (v : Byte) (s : State) : (kbdCtrlWrite v s).crtc = s.crtc := rfl
@[simp] theorem kbdCtrlWrite_matrix (v : Byte) (s : State) : (kbdCtrlWrite v s).matrix = s.matrix := rfl
@[simp] theorem kbdCtrlWrite_inputs (v : Byte) (s : State) : (kbdCtrlWrite v s).inputs = s.inputs := rfl
@[simp] theorem kbdCtrlWrite_freeCount (v : Byte) (s : State) : (kbdCtrlWrite v s).freeCount = s.freeCount := rfl

/-! ### crtcAddrWrite -/

@[simp] theorem crtcAddrWrite_config (v : Byte) (s : State) : (crtcAddrWrite v s).config = s.config := rfl
@[simp] theorem crtcAddrWrite_a (v : Byte) (s : State) : (crtcAddrWrite v s).a = s.a := rfl
@[simp] theorem crtcAddrWrite_x (v : Byte) (s : State) : (crtcAddrWrite v s).x = s.x := rfl
@[simp] theorem crtcAddrWrite_y (v : Byte) (s : State) : (crtcAddrWrite v s).y = s.y := rfl
@[simp] theorem crtcAddrWrite_sp (v : Byte) (s : State) : (crtcAddrWrite v s).sp = s.sp := rfl
@[simp] theorem crtcAddrWrite_pc (v : Byte) (s : State) : (crtcAddrWrite v s).pc = s.pc := rfl
@[simp] theorem crtcAddrWrite_p (v : Byte) (s : State) : (crtcAddrWrite v s).p = s.p := rfl
@[simp] theorem crtcAddrWrite_halted (v : Byte) (s : State) : (crtcAddrWrite v s).halted = s.halted := rfl
@[simp] theorem crtcAddrWrite_cycles (v : Byte) (s : State) : (crtcAddrWrite v s).cycles = s.cycles := rfl
@[simp] theorem crtcAddrWrite_mem (v : Byte) (s : State) : (crtcAddrWrite v s).mem = s.mem := rfl
@[simp] theorem crtcAddrWrite_ic (v : Byte) (s : State) : (crtcAddrWrite v s).ic = s.ic := rfl
@[simp] theorem crtcAddrWrite_kbd (v : Byte) (s : State) : (crtcAddrWrite v s).kbd = s.kbd := rfl
@[simp] theorem crtcAddrWrite_matrix (v : Byte) (s : State) : (crtcAddrWrite v s).matrix = s.matrix := rfl
@[simp] theorem crtcAddrWrite_inputs (v : Byte) (s : State) : (crtcAddrWrite v s).inputs = s.inputs := rfl
@[simp] theorem crtcAddrWrite_freeCount (v : Byte) (s : State) : (crtcAddrWrite v s).freeCount = s.freeCount := rfl

/-! ### writeAlu -/

@[simp] theorem writeAlu_config (k : AluResult) (s : State) : (writeAlu k s).config = s.config := rfl
@[simp] theorem writeAlu_x (k : AluResult) (s : State) : (writeAlu k s).x = s.x := rfl
@[simp] theorem writeAlu_y (k : AluResult) (s : State) : (writeAlu k s).y = s.y := rfl
@[simp] theorem writeAlu_sp (k : AluResult) (s : State) : (writeAlu k s).sp = s.sp := rfl
@[simp] theorem writeAlu_pc (k : AluResult) (s : State) : (writeAlu k s).pc = s.pc := rfl
@[simp] theorem writeAlu_halted (k : AluResult) (s : State) : (writeAlu k s).halted = s.halted := rfl
@[simp] theorem writeAlu_cycles (k : AluResult) (s : State) : (writeAlu k s).cycles = s.cycles := rfl
@[simp] theorem writeAlu_mem (k : AluResult) (s : State) : (writeAlu k s).mem = s.mem := rfl
@[simp] theorem writeAlu_ic (k : AluResult) (s : State) : (writeAlu k s).ic = s.ic := rfl
@[simp] theorem writeAlu_kbd (k : AluResult) (s : State) : (writeAlu k s).kbd = s.kbd := rfl
@[simp] theorem writeAlu_crtc (k : AluResult) (s : State) : (writeAlu k s).crtc = s.crtc := rfl
@[simp] theorem writeAlu_matrix (k : AluResult) (s : State) : (writeAlu k s).matrix = s.matrix := rfl
@[simp] theorem writeAlu_inputs (k : AluResult) (s : State) : (writeAlu k s).inputs = s.inputs := rfl
@[simp] theorem writeAlu_freeCount (k : AluResult) (s : State) : (writeAlu k s).freeCount = s.freeCount := rfl
@[simp] theorem writeAlu_a (k : AluResult) (s : State) : (writeAlu k s).a = k.r := rfl

/-! ### writeDrawn -/

@[simp] theorem writeDrawn_config (r : Byte) (c : Bool) (s : State) : (writeDrawn r c s).config = s.config := rfl
@[simp] theorem writeDrawn_x (r : Byte) (c : Bool) (s : State) : (writeDrawn r c s).x = s.x := rfl
@[simp] theorem writeDrawn_y (r : Byte) (c : Bool) (s : State) : (writeDrawn r c s).y = s.y := rfl
@[simp] theorem writeDrawn_sp (r : Byte) (c : Bool) (s : State) : (writeDrawn r c s).sp = s.sp := rfl
@[simp] theorem writeDrawn_pc (r : Byte) (c : Bool) (s : State) : (writeDrawn r c s).pc = s.pc := rfl
@[simp] theorem writeDrawn_halted (r : Byte) (c : Bool) (s : State) : (writeDrawn r c s).halted = s.halted := rfl
@[simp] theorem writeDrawn_cycles (r : Byte) (c : Bool) (s : State) : (writeDrawn r c s).cycles = s.cycles := rfl
@[simp] theorem writeDrawn_mem (r : Byte) (c : Bool) (s : State) : (writeDrawn r c s).mem = s.mem := rfl
@[simp] theorem writeDrawn_ic (r : Byte) (c : Bool) (s : State) : (writeDrawn r c s).ic = s.ic := rfl
@[simp] theorem writeDrawn_kbd (r : Byte) (c : Bool) (s : State) : (writeDrawn r c s).kbd = s.kbd := rfl
@[simp] theorem writeDrawn_crtc (r : Byte) (c : Bool) (s : State) : (writeDrawn r c s).crtc = s.crtc := rfl
@[simp] theorem writeDrawn_matrix (r : Byte) (c : Bool) (s : State) : (writeDrawn r c s).matrix = s.matrix := rfl
@[simp] theorem writeDrawn_inputs (r : Byte) (c : Bool) (s : State) : (writeDrawn r c s).inputs = s.inputs := rfl
@[simp] theorem writeDrawn_a (r : Byte) (c : Bool) (s : State) : (writeDrawn r c s).a = r := rfl
@[simp] theorem writeDrawn_freeCount (r : Byte) (c : Bool) (s : State) : (writeDrawn r c s).freeCount = s.freeCount + 1 := rfl

/-! ### setShiftFlags -/

@[simp] theorem setShiftFlags_config (k : Byte × Bool) (s : State) : (setShiftFlags k s).config = s.config := rfl
@[simp] theorem setShiftFlags_a (k : Byte × Bool) (s : State) : (setShiftFlags k s).a = s.a := rfl
@[simp] theorem setShiftFlags_x (k : Byte × Bool) (s : State) : (setShiftFlags k s).x = s.x := rfl
@[simp] theorem setShiftFlags_y (k : Byte × Bool) (s : State) : (setShiftFlags k s).y = s.y := rfl
@[simp] theorem setShiftFlags_sp (k : Byte × Bool) (s : State) : (setShiftFlags k s).sp = s.sp := rfl
@[simp] theorem setShiftFlags_pc (k : Byte × Bool) (s : State) : (setShiftFlags k s).pc = s.pc := rfl
@[simp] theorem setShiftFlags_halted (k : Byte × Bool) (s : State) : (setShiftFlags k s).halted = s.halted := rfl
@[simp] theorem setShiftFlags_cycles (k : Byte × Bool) (s : State) : (setShiftFlags k s).cycles = s.cycles := rfl
@[simp] theorem setShiftFlags_mem (k : Byte × Bool) (s : State) : (setShiftFlags k s).mem = s.mem := rfl
@[simp] theorem setShiftFlags_ic (k : Byte × Bool) (s : State) : (setShiftFlags k s).ic = s.ic := rfl
@[simp] theorem setShiftFlags_kbd (k : Byte × Bool) (s : State) : (setShiftFlags k s).kbd = s.kbd := rfl
@[simp] theorem setShiftFlags_crtc (k : Byte × Bool) (s : State) : (setShiftFlags k s).crtc = s.crtc := rfl
@[simp] theorem setShiftFlags_matrix (k : Byte × Bool) (s : State) : (setShiftFlags k s).matrix = s.matrix := rfl
@[simp] theorem setShiftFlags_inputs (k : Byte × Bool) (s : State) : (setShiftFlags k s).inputs = s.inputs := rfl
@[simp] theorem setShiftFlags_freeCount (k : Byte × Bool) (s : State) : (setShiftFlags k s).freeCount = s.freeCount := rfl
@[simp] theorem setShiftFlags_p (k : Byte × Bool) (s : State) : (setShiftFlags k s).p = { s.p.withNZ k.1 with c := k.2 } := rfl

/-! ### applyInput -/

@[simp] theorem applyInput_config (h : HostInput) (s : State) : (applyInput h s).config = s.config := rfl
@[simp] theorem applyInput_a (h : HostInput) (s : State) : (applyInput h s).a = s.a := rfl
@[simp] theorem applyInput_x (h : HostInput) (s : State) : (applyInput h s).x = s.x := rfl
@[simp] theorem applyInput_y (h : HostInput) (s : State) : (applyInput h s).y = s.y := rfl
@[simp] theorem applyInput_sp (h : HostInput) (s : State) : (applyInput h s).sp = s.sp := rfl
@[simp] theorem applyInput_pc (h : HostInput) (s : State) : (applyInput h s).pc = s.pc := rfl
@[simp] theorem applyInput_p (h : HostInput) (s : State) : (applyInput h s).p = s.p := rfl
@[simp] theorem applyInput_halted (h : HostInput) (s : State) : (applyInput h s).halted = s.halted := rfl
@[simp] theorem applyInput_cycles (h : HostInput) (s : State) : (applyInput h s).cycles = s.cycles := rfl
@[simp] theorem applyInput_mem (h : HostInput) (s : State) : (applyInput h s).mem = s.mem := rfl
@[simp] theorem applyInput_kbd (h : HostInput) (s : State) : (applyInput h s).kbd = s.kbd := rfl
@[simp] theorem applyInput_crtc (h : HostInput) (s : State) : (applyInput h s).crtc = s.crtc := rfl
@[simp] theorem applyInput_inputs (h : HostInput) (s : State) : (applyInput h s).inputs = s.inputs := rfl
@[simp] theorem applyInput_freeCount (h : HostInput) (s : State) : (applyInput h s).freeCount = s.freeCount := rfl
@[simp] theorem applyInput_matrix (h : HostInput) (s : State) : (applyInput h s).matrix = h.matrix.getD s.matrix := rfl

/-! ### Flags.withNZ and Flags.compare -/

@[simp] theorem Flags.withNZ_v (p : Flags) (v : Byte) : (p.withNZ v).v = p.v := rfl
@[simp] theorem Flags.withNZ_d (p : Flags) (v : Byte) : (p.withNZ v).d = p.d := rfl
@[simp] theorem Flags.withNZ_i (p : Flags) (v : Byte) : (p.withNZ v).i = p.i := rfl
@[simp] theorem Flags.withNZ_c (p : Flags) (v : Byte) : (p.withNZ v).c = p.c := rfl
@[simp] theorem Flags.withNZ_n (p : Flags) (v : Byte) : (p.withNZ v).n = v.msb := rfl
@[simp] theorem Flags.withNZ_z (p : Flags) (v : Byte) : (p.withNZ v).z = (v == 0) := rfl
@[simp] theorem Flags.compare_v (p : Flags) (r m : Byte) : (p.compare r m).v = p.v := rfl
@[simp] theorem Flags.compare_d (p : Flags) (r m : Byte) : (p.compare r m).d = p.d := rfl
@[simp] theorem Flags.compare_i (p : Flags) (r m : Byte) : (p.compare r m).i = p.i := rfl

end Sys2Proof.Machine
end

