-- ==== Sys2Proof/Laws/Ops.lean ====
section
/-! SUPPORT. Everything the shared operations can do: the bus write (which fields it can change), the stack, taking an
exception, the tick, the boundary; and that a bus read looks at no CPU register. Provers cite these instead of unfolding
the operations. -/

namespace Sys2Proof.Machine

/-! ### A bus read does not look at the CPU registers -/

/-- A read depends only on the configuration, memory, the devices and the key grid. -/
theorem memRead_congr {s t : State} (hc : t.config = s.config) (hm : t.mem = s.mem) (hi : t.ic = s.ic)
    (hk : t.kbd = s.kbd) (hr : t.crtc = s.crtc) (hx : t.matrix = s.matrix) (a : Addr) :
    memRead t a = memRead s a := by
  simp only [memRead, busTarget, kbdPortRead, crtcDataRead, icAckRead, keyboardLine, pendingIrq, hc, hm, hi, hk, hr, hx]

@[simp] theorem memRead_setNZ (v : Byte) (s : State) (b : Addr) : memRead (setNZ v s) b = memRead s b := rfl
@[simp] theorem memRead_pulled (s : State) (b : Addr) : memRead (pulled s) b = memRead s b := rfl
@[simp] theorem memRead_advance (i : Instr) (s : State) (b : Addr) : memRead (advance i s) b = memRead s b := rfl
@[simp] theorem memRead_setShiftFlags (k : Byte × Bool) (s : State) (b : Addr) : memRead (setShiftFlags k s) b = memRead s b := rfl
@[simp] theorem memRead_with_sp (s : State) (v : Byte) (b : Addr) : memRead { s with sp := v } b = memRead s b := rfl
@[simp] theorem memRead_with_pc (s : State) (v : Addr) (b : Addr) : memRead { s with pc := v } b = memRead s b := rfl
@[simp] theorem memRead_with_p (s : State) (v : Flags) (b : Addr) : memRead { s with p := v } b = memRead s b := rfl
@[simp] theorem memRead_with_a (s : State) (v : Byte) (b : Addr) : memRead { s with a := v } b = memRead s b := rfl
@[simp] theorem memRead_with_x (s : State) (v : Byte) (b : Addr) : memRead { s with x := v } b = memRead s b := rfl
@[simp] theorem memRead_with_y (s : State) (v : Byte) (b : Addr) : memRead { s with y := v } b = memRead s b := rfl
@[simp] theorem memRead_with_cycles (s : State) (v : Nat) (b : Addr) : memRead { s with cycles := v } b = memRead s b := rfl
@[simp] theorem memRead_with_halted (s : State) (v : Option FaultInfo) (b : Addr) : memRead { s with halted := v } b = memRead s b := rfl

/-- Which device answers an address depends only on the configuration (R63). -/
theorem isMemory_congr {s t : State} (h : t.config = s.config) (a : Addr) : isMemory t a = isMemory s a := by
  simp only [isMemory, busTarget, h]

/-! ### What a bus write leaves unchanged -/

/-- A write to CRTC_DATA changes the register file only. -/
theorem crtcDataWrite_eq (v : Byte) (s : State) : crtcDataWrite v s = { s with crtc := (crtcDataWrite v s).crtc } := by
  unfold crtcDataWrite; split <;> rfl

/-- A bus write changes memory and the devices only (R62). -/
theorem memWrite_eq (s : State) (b : Addr) (v : Byte) :
    memWrite s b v = { s with
      mem := (memWrite s b v).mem
      ic := (memWrite s b v).ic
      kbd := (memWrite s b v).kbd
      crtc := (memWrite s b v).crtc } := by
  unfold memWrite
  split <;> try rfl
  rw [crtcDataWrite_eq]

@[simp] theorem memWrite_config (s : State) (b : Addr) (v : Byte) : (memWrite s b v).config = s.config := by rw [memWrite_eq]
@[simp] theorem memWrite_a (s : State) (b : Addr) (v : Byte) : (memWrite s b v).a = s.a := by rw [memWrite_eq]
@[simp] theorem memWrite_x (s : State) (b : Addr) (v : Byte) : (memWrite s b v).x = s.x := by rw [memWrite_eq]
@[simp] theorem memWrite_y (s : State) (b : Addr) (v : Byte) : (memWrite s b v).y = s.y := by rw [memWrite_eq]
@[simp] theorem memWrite_sp (s : State) (b : Addr) (v : Byte) : (memWrite s b v).sp = s.sp := by rw [memWrite_eq]
@[simp] theorem memWrite_pc (s : State) (b : Addr) (v : Byte) : (memWrite s b v).pc = s.pc := by rw [memWrite_eq]
@[simp] theorem memWrite_p (s : State) (b : Addr) (v : Byte) : (memWrite s b v).p = s.p := by rw [memWrite_eq]
@[simp] theorem memWrite_halted (s : State) (b : Addr) (v : Byte) : (memWrite s b v).halted = s.halted := by rw [memWrite_eq]
@[simp] theorem memWrite_cycles (s : State) (b : Addr) (v : Byte) : (memWrite s b v).cycles = s.cycles := by rw [memWrite_eq]
@[simp] theorem memWrite_matrix (s : State) (b : Addr) (v : Byte) : (memWrite s b v).matrix = s.matrix := by rw [memWrite_eq]
@[simp] theorem memWrite_inputs (s : State) (b : Addr) (v : Byte) : (memWrite s b v).inputs = s.inputs := by rw [memWrite_eq]
@[simp] theorem memWrite_freeCount (s : State) (b : Addr) (v : Byte) : (memWrite s b v).freeCount = s.freeCount := by rw [memWrite_eq]

/-- What each target does with a write (R67 to R69), case by case. -/
theorem memWrite_cases (s : State) (b : Addr) (v : Byte) :
    (busTarget s b = .ram ∧ memWrite s b v = { s with mem := s.mem.write b.toNat v }) ∨
    (busTarget s b = .rom ∧ memWrite s b v = s) ∨
    (busTarget s b = .kbdPort ∧ memWrite s b v = { s with kbd := { s.kbd with ora := v } }) ∨
    (busTarget s b = .kbdDdr ∧ memWrite s b v = { s with kbd := { s.kbd with ddrA := v } }) ∨
    (busTarget s b = .kbdCtrl ∧ memWrite s b v = kbdCtrlWrite v s) ∨
    (busTarget s b = .kbdCtrlDdr ∧ memWrite s b v = { s with kbd := { s.kbd with ddrB := v } }) ∨
    (busTarget s b = .crtcAddr ∧ memWrite s b v = crtcAddrWrite v s) ∨
    (busTarget s b = .crtcData ∧ memWrite s b v = crtcDataWrite v s) ∨
    (busTarget s b = .icAck ∧ memWrite s b v = icAckWrite v s) := by
  cases h : busTarget s b <;> simp [memWrite, h]

/-- Only a write to RAM changes memory cells. -/
theorem memWrite_mem (s : State) (b : Addr) (v : Byte) :
    (memWrite s b v).mem = if busTarget s b = .ram then s.mem.write b.toNat v else s.mem := by
  unfold memWrite crtcDataWrite
  split <;> rename_i h <;> simp [h]
  split <;> rfl

/-- A bus write keeps the canonical form of memory. -/
theorem memWrite_wf {s : State} (b : Addr) (v : Byte) (h : s.mem.wf = true) : (memWrite s b v).mem.wf = true := by
  rw [memWrite_mem]
  split
  · exact Memory.write_wf v h b.isLt
  · exact h

/-- Loading a byte of an image keeps the canonical form of memory. -/
theorem loadByte_wf {s : State} (b : Addr) (v : Byte) (h : s.mem.wf = true) : (loadByte s b v).mem.wf = true := by
  unfold loadByte
  split <;> first | exact h | exact Memory.write_wf v h b.isLt

/-- The free-running scan is not touched by a write (R292, R295). -/
@[simp] theorem memWrite_scanRow (s : State) (b : Addr) (v : Byte) : (memWrite s b v).kbd.scanRow = s.kbd.scanRow := by
  unfold memWrite crtcDataWrite
  split <;> (first | rfl | (split <;> rfl))

@[simp] theorem memWrite_tick (s : State) (b : Addr) (v : Byte) : (memWrite s b v).kbd.tick = s.kbd.tick := by
  unfold memWrite crtcDataWrite
  split <;> (first | rfl | (split <;> rfl))

/-- A write never clears the NMI latch (R283, R286). -/
@[simp] theorem memWrite_nmiExt (s : State) (b : Addr) (v : Byte) : (memWrite s b v).ic.nmiExt = s.ic.nmiExt := by
  unfold memWrite crtcDataWrite
  split <;> (first | rfl | (split <;> rfl))

@[simp] theorem clearExtra_length (which : ExtraSource → Bool) :
    ∀ (es : List ExtraSource) (fs : List Bool), (clearExtra which es fs).length = fs.length
  | [], _ => rfl
  | _ :: _, [] => rfl
  | _ :: es, _ :: fs => by simp [clearExtra, clearExtra_length which es fs]

@[simp] theorem deliverExtra_length :
    ∀ (es : List ExtraSource) (fs bs : List Bool), (deliverExtra es fs bs).length = fs.length
  | [], _, _ => rfl
  | _ :: _, [], _ => rfl
  | _ :: _, _ :: _, [] => rfl
  | _ :: es, _ :: fs, _ :: bs => by simp [deliverExtra, deliverExtra_length es fs bs]

@[simp] theorem memWrite_extra_length (s : State) (b : Addr) (v : Byte) :
    (memWrite s b v).ic.extra.length = s.ic.extra.length := by
  unfold memWrite crtcDataWrite
  split <;> (first | rfl | (split <;> rfl) | simp [icAckWrite])

/-! ### The stack -/

@[simp] theorem push_config (v : Byte) (s : State) : (push v s).config = s.config := by simp [push]
@[simp] theorem push_a (v : Byte) (s : State) : (push v s).a = s.a := by simp [push]
@[simp] theorem push_x (v : Byte) (s : State) : (push v s).x = s.x := by simp [push]
@[simp] theorem push_y (v : Byte) (s : State) : (push v s).y = s.y := by simp [push]
@[simp] theorem push_pc (v : Byte) (s : State) : (push v s).pc = s.pc := by simp [push]
@[simp] theorem push_p (v : Byte) (s : State) : (push v s).p = s.p := by simp [push]
@[simp] theorem push_halted (v : Byte) (s : State) : (push v s).halted = s.halted := by simp [push]
@[simp] theorem push_cycles (v : Byte) (s : State) : (push v s).cycles = s.cycles := by simp [push]
@[simp] theorem push_matrix (v : Byte) (s : State) : (push v s).matrix = s.matrix := by simp [push]
@[simp] theorem push_inputs (v : Byte) (s : State) : (push v s).inputs = s.inputs := by simp [push]
@[simp] theorem push_freeCount (v : Byte) (s : State) : (push v s).freeCount = s.freeCount := by simp [push]
@[simp] theorem push_sp (v : Byte) (s : State) : (push v s).sp = s.sp - 1 := rfl
@[simp] theorem push_scanRow (v : Byte) (s : State) : (push v s).kbd.scanRow = s.kbd.scanRow := by simp [push]
@[simp] theorem push_tick (v : Byte) (s : State) : (push v s).kbd.tick = s.kbd.tick := by simp [push]
@[simp] theorem push_nmiExt (v : Byte) (s : State) : (push v s).ic.nmiExt = s.ic.nmiExt := by simp [push]

/-- A bus write does not look at SP. -/
theorem memWrite_with_sp (s : State) (v : Byte) (b : Addr) (w : Byte) :
    memWrite { s with sp := v } b w = { memWrite s b w with sp := v } := by
  have hb : busTarget { s with sp := v } b = busTarget s b := rfl
  unfold memWrite
  rw [hb]
  cases busTarget s b <;> try rfl
  by_cases h : s.crtc.addr.toNat < 18 <;> simp [crtcDataWrite, h]

/-- The stack address is $0100 + SP (R160). -/
theorem stackAddr_eq (b : Byte) : stackAddr b = 0x0100 + zext b := by
  apply BitVec.eq_of_toNat_eq
  simp only [stackAddr, wordOf, Config.stackPage, BitVec.toNat_append, zext]
  rw [← Nat.shiftLeft_add_eq_or_of_lt b.isLt]
  simp [Nat.shiftLeft_eq]
  omega

/-- A pulled byte is the one at the incremented SP (R161). -/
theorem pullByte_eq (s : State) : pullByte s = memRead s (stackAddr (s.sp + 1)) := rfl

/-! ### Taking an exception, and returning -/

@[simp] theorem takeException_config (ret : Addr) (b : Bool) (w : Addr) (s : State) :
    (takeException ret b w s).config = s.config := by simp [takeException, pushWord]
@[simp] theorem takeException_a (ret : Addr) (b : Bool) (w : Addr) (s : State) :
    (takeException ret b w s).a = s.a := by simp [takeException, pushWord]
@[simp] theorem takeException_x (ret : Addr) (b : Bool) (w : Addr) (s : State) :
    (takeException ret b w s).x = s.x := by simp [takeException, pushWord]
@[simp] theorem takeException_y (ret : Addr) (b : Bool) (w : Addr) (s : State) :
    (takeException ret b w s).y = s.y := by simp [takeException, pushWord]
@[simp] theorem takeException_halted (ret : Addr) (b : Bool) (w : Addr) (s : State) :
    (takeException ret b w s).halted = s.halted := by simp [takeException, pushWord]
@[simp] theorem takeException_cycles (ret : Addr) (b : Bool) (w : Addr) (s : State) :
    (takeException ret b w s).cycles = s.cycles := by simp [takeException, pushWord]
@[simp] theorem takeException_matrix (ret : Addr) (b : Bool) (w : Addr) (s : State) :
    (takeException ret b w s).matrix = s.matrix := by simp [takeException, pushWord]
@[simp] theorem takeException_inputs (ret : Addr) (b : Bool) (w : Addr) (s : State) :
    (takeException ret b w s).inputs = s.inputs := by simp [takeException, pushWord]
@[simp] theorem takeException_freeCount (ret : Addr) (b : Bool) (w : Addr) (s : State) :
    (takeException ret b w s).freeCount = s.freeCount := by simp [takeException, pushWord]
@[simp] theorem takeException_p (ret : Addr) (b : Bool) (w : Addr) (s : State) :
    (takeException ret b w s).p = { s.p with i := true } := by simp [takeException, pushWord]

/-- All that taking an exception does: three bytes written below each other, SP lowered by 3, I set, PC from the vector
(R271; R238). -/
theorem takeException_eq (ret : Addr) (b : Bool) (vector : Addr) (s : State) :
    let s1 := memWrite s (0x0100 + zext s.sp) (hiByte ret)
    let s2 := memWrite s1 (0x0100 + zext (s.sp - 1)) (loByte ret)
    let s3 := memWrite s2 (0x0100 + zext (s.sp - 2)) (s.p.toByte b)
    takeException ret b vector s =
      { s3 with sp := s.sp - 3, p := { s.p with i := true }, pc := memRead16 s3 vector } := by
  have e : s.sp - 1 - 1 = s.sp - 2 := by bv_omega
  have e' : s.sp - 2 - 1 = s.sp - 3 := by bv_omega
  intro s1 s2 s3
  have h1 : push (hiByte ret) s = { s1 with sp := s.sp - 1 } := by simp [push, stackAddr_eq, s1]
  have h2 : pushWord ret s = { s2 with sp := s.sp - 2 } := by
    rw [pushWord, h1, push, memWrite_with_sp, stackAddr_eq]; simp only [e, s2]
  have h3 : push ((pushWord ret s).p.toByte b) (pushWord ret s) = { s3 with sp := s.sp - 3 } := by
    rw [h2, push, memWrite_with_sp, stackAddr_eq]; simp only [e', s3, s2, s1, memWrite_p]
  rw [takeException, h3]
  simp only [s3, s2, s1, memWrite_p]
  rfl

/-- Three bytes are pushed (R271). -/
theorem takeException_sp (ret : Addr) (b : Bool) (w : Addr) (s : State) :
    (takeException ret b w s).sp = s.sp - 1 - 1 - 1 := by simp [takeException, pushWord]

/-- The return changes SP, P and PC only (R239). -/
theorem returnFromException_eq (s : State) :
    returnFromException s = { s with
      sp := s.sp + 1 + 1 + 1
      p := Flags.ofByte (memRead s (stackAddr (s.sp + 1)))
      pc := wordOf (memRead s (stackAddr (s.sp + 1 + 1 + 1))) (memRead s (stackAddr (s.sp + 1 + 1))) } := rfl

/-! ### The tick and the boundary -/

/-- DeviceTick changes the scan counter and its tick only (R300). -/
theorem deviceTick_eq (n : Nat) (s : State) :
    deviceTick n s = { s with
      kbd := { s.kbd with
        tick := (deviceTick n s).kbd.tick
        scanRow := (deviceTick n s).kbd.scanRow } } := by
  unfold deviceTick; split <;> rfl

@[simp] theorem deviceTick_config (n : Nat) (s : State) : (deviceTick n s).config = s.config := by rw [deviceTick_eq]
@[simp] theorem deviceTick_a (n : Nat) (s : State) : (deviceTick n s).a = s.a := by rw [deviceTick_eq]
@[simp] theorem deviceTick_x (n : Nat) (s : State) : (deviceTick n s).x = s.x := by rw [deviceTick_eq]
@[simp] theorem deviceTick_y (n : Nat) (s : State) : (deviceTick n s).y = s.y := by rw [deviceTick_eq]
@[simp] theorem deviceTick_sp (n : Nat) (s : State) : (deviceTick n s).sp = s.sp := by rw [deviceTick_eq]
@[simp] theorem deviceTick_pc (n : Nat) (s : State) : (deviceTick n s).pc = s.pc := by rw [deviceTick_eq]
@[simp] theorem deviceTick_p (n : Nat) (s : State) : (deviceTick n s).p = s.p := by rw [deviceTick_eq]
@[simp] theorem deviceTick_halted (n : Nat) (s : State) : (deviceTick n s).halted = s.halted := by rw [deviceTick_eq]
@[simp] theorem deviceTick_cycles (n : Nat) (s : State) : (deviceTick n s).cycles = s.cycles := by rw [deviceTick_eq]
@[simp] theorem deviceTick_mem (n : Nat) (s : State) : (deviceTick n s).mem = s.mem := by rw [deviceTick_eq]
@[simp] theorem deviceTick_ic (n : Nat) (s : State) : (deviceTick n s).ic = s.ic := by rw [deviceTick_eq]
@[simp] theorem deviceTick_crtc (n : Nat) (s : State) : (deviceTick n s).crtc = s.crtc := by rw [deviceTick_eq]
@[simp] theorem deviceTick_matrix (n : Nat) (s : State) : (deviceTick n s).matrix = s.matrix := by rw [deviceTick_eq]
@[simp] theorem deviceTick_inputs (n : Nat) (s : State) : (deviceTick n s).inputs = s.inputs := by rw [deviceTick_eq]
@[simp] theorem deviceTick_freeCount (n : Nat) (s : State) : (deviceTick n s).freeCount = s.freeCount := by rw [deviceTick_eq]
@[simp] theorem finishStep_config (n : Nat) (s : State) : (finishStep n s).config = s.config := by simp [finishStep]
@[simp] theorem finishStep_a (n : Nat) (s : State) : (finishStep n s).a = s.a := by simp [finishStep]
@[simp] theorem finishStep_x (n : Nat) (s : State) : (finishStep n s).x = s.x := by simp [finishStep]
@[simp] theorem finishStep_y (n : Nat) (s : State) : (finishStep n s).y = s.y := by simp [finishStep]
@[simp] theorem finishStep_sp (n : Nat) (s : State) : (finishStep n s).sp = s.sp := by simp [finishStep]
@[simp] theorem finishStep_pc (n : Nat) (s : State) : (finishStep n s).pc = s.pc := by simp [finishStep]
@[simp] theorem finishStep_p (n : Nat) (s : State) : (finishStep n s).p = s.p := by simp [finishStep]
@[simp] theorem finishStep_halted (n : Nat) (s : State) : (finishStep n s).halted = s.halted := by simp [finishStep]
@[simp] theorem finishStep_mem (n : Nat) (s : State) : (finishStep n s).mem = s.mem := by simp [finishStep]
@[simp] theorem finishStep_ic (n : Nat) (s : State) : (finishStep n s).ic = s.ic := by simp [finishStep]
@[simp] theorem finishStep_crtc (n : Nat) (s : State) : (finishStep n s).crtc = s.crtc := by simp [finishStep]
@[simp] theorem finishStep_matrix (n : Nat) (s : State) : (finishStep n s).matrix = s.matrix := by simp [finishStep]
@[simp] theorem finishStep_inputs (n : Nat) (s : State) : (finishStep n s).inputs = s.inputs := by simp [finishStep]
@[simp] theorem finishStep_freeCount (n : Nat) (s : State) : (finishStep n s).freeCount = s.freeCount := by simp [finishStep]
@[simp] theorem finishStep_cycles (n : Nat) (s : State) : (finishStep n s).cycles = s.cycles + n := by simp [finishStep]

@[simp] theorem deliverInputs_config (s : State) : (deliverInputs s).config = s.config := by unfold deliverInputs; split <;> simp
@[simp] theorem deliverInputs_a (s : State) : (deliverInputs s).a = s.a := by unfold deliverInputs; split <;> simp
@[simp] theorem deliverInputs_x (s : State) : (deliverInputs s).x = s.x := by unfold deliverInputs; split <;> simp
@[simp] theorem deliverInputs_y (s : State) : (deliverInputs s).y = s.y := by unfold deliverInputs; split <;> simp
@[simp] theorem deliverInputs_sp (s : State) : (deliverInputs s).sp = s.sp := by unfold deliverInputs; split <;> simp
@[simp] theorem deliverInputs_pc (s : State) : (deliverInputs s).pc = s.pc := by unfold deliverInputs; split <;> simp
@[simp] theorem deliverInputs_p (s : State) : (deliverInputs s).p = s.p := by unfold deliverInputs; split <;> simp
@[simp] theorem deliverInputs_halted (s : State) : (deliverInputs s).halted = s.halted := by unfold deliverInputs; split <;> simp
@[simp] theorem deliverInputs_cycles (s : State) : (deliverInputs s).cycles = s.cycles := by unfold deliverInputs; split <;> simp
@[simp] theorem deliverInputs_mem (s : State) : (deliverInputs s).mem = s.mem := by unfold deliverInputs; split <;> simp
@[simp] theorem deliverInputs_kbd (s : State) : (deliverInputs s).kbd = s.kbd := by unfold deliverInputs; split <;> simp
@[simp] theorem deliverInputs_crtc (s : State) : (deliverInputs s).crtc = s.crtc := by unfold deliverInputs; split <;> simp
@[simp] theorem deliverInputs_freeCount (s : State) : (deliverInputs s).freeCount = s.freeCount := by unfold deliverInputs; split <;> simp

end Sys2Proof.Machine
end

