-- ==== Sys2Proof/Laws/PerInstr.lean ====
section
/-! SUPPORT. Facts about every instruction as syntax, one lemma per constructor: the opcode byte has a row in the opcode map,
and that row's mode gives the length the encoder produces (spec/30_encoding.md R102, R121). -/

namespace Sys2Proof.Laws.EncodeShape

/-- The instruction's opcode byte has a table row, and the row's length is the encoded length. -/
def Statement (i : Instr) : Prop :=
  ((findRow i.opcode).map fun r => r.mode.length) = some (encode i).length

theorem ldaImm (d8 : Byte) : Statement (.ldaImm d8) :=
  congrArg (Option.map _) findRow_A9
theorem ldaZp (d8 : Byte) : Statement (.ldaZp d8) :=
  congrArg (Option.map _) findRow_A5
theorem ldaZpx (d8 : Byte) : Statement (.ldaZpx d8) :=
  congrArg (Option.map _) findRow_B5
theorem ldaAbs (a16 : Addr) : Statement (.ldaAbs a16) :=
  congrArg (Option.map _) findRow_AD
theorem ldaAbsx (a16 : Addr) : Statement (.ldaAbsx a16) :=
  congrArg (Option.map _) findRow_BD
theorem ldaAbsy (a16 : Addr) : Statement (.ldaAbsy a16) :=
  congrArg (Option.map _) findRow_B9
theorem ldaIndx (d8 : Byte) : Statement (.ldaIndx d8) :=
  congrArg (Option.map _) findRow_A1
theorem ldaIndy (d8 : Byte) : Statement (.ldaIndy d8) :=
  congrArg (Option.map _) findRow_B1
theorem ldxImm (d8 : Byte) : Statement (.ldxImm d8) :=
  congrArg (Option.map _) findRow_A2
theorem ldxZp (d8 : Byte) : Statement (.ldxZp d8) :=
  congrArg (Option.map _) findRow_A6
theorem ldxZpy (d8 : Byte) : Statement (.ldxZpy d8) :=
  congrArg (Option.map _) findRow_B6
theorem ldxAbs (a16 : Addr) : Statement (.ldxAbs a16) :=
  congrArg (Option.map _) findRow_AE
theorem ldxAbsy (a16 : Addr) : Statement (.ldxAbsy a16) :=
  congrArg (Option.map _) findRow_BE
theorem ldyImm (d8 : Byte) : Statement (.ldyImm d8) :=
  congrArg (Option.map _) findRow_A0
theorem ldyZp (d8 : Byte) : Statement (.ldyZp d8) :=
  congrArg (Option.map _) findRow_A4
theorem ldyZpx (d8 : Byte) : Statement (.ldyZpx d8) :=
  congrArg (Option.map _) findRow_B4
theorem ldyAbs (a16 : Addr) : Statement (.ldyAbs a16) :=
  congrArg (Option.map _) findRow_AC
theorem ldyAbsx (a16 : Addr) : Statement (.ldyAbsx a16) :=
  congrArg (Option.map _) findRow_BC
theorem staZp (d8 : Byte) : Statement (.staZp d8) :=
  congrArg (Option.map _) findRow_85
theorem staZpx (d8 : Byte) : Statement (.staZpx d8) :=
  congrArg (Option.map _) findRow_95
theorem staAbs (a16 : Addr) : Statement (.staAbs a16) :=
  congrArg (Option.map _) findRow_8D
theorem staAbsx (a16 : Addr) : Statement (.staAbsx a16) :=
  congrArg (Option.map _) findRow_9D
theorem staAbsy (a16 : Addr) : Statement (.staAbsy a16) :=
  congrArg (Option.map _) findRow_99
theorem staIndx (d8 : Byte) : Statement (.staIndx d8) :=
  congrArg (Option.map _) findRow_81
theorem staIndy (d8 : Byte) : Statement (.staIndy d8) :=
  congrArg (Option.map _) findRow_91
theorem stxZp (d8 : Byte) : Statement (.stxZp d8) :=
  congrArg (Option.map _) findRow_86
theorem stxZpy (d8 : Byte) : Statement (.stxZpy d8) :=
  congrArg (Option.map _) findRow_96
theorem stxAbs (a16 : Addr) : Statement (.stxAbs a16) :=
  congrArg (Option.map _) findRow_8E
theorem styZp (d8 : Byte) : Statement (.styZp d8) :=
  congrArg (Option.map _) findRow_84
theorem styZpx (d8 : Byte) : Statement (.styZpx d8) :=
  congrArg (Option.map _) findRow_94
theorem styAbs (a16 : Addr) : Statement (.styAbs a16) :=
  congrArg (Option.map _) findRow_8C
theorem tax : Statement (.tax) :=
  congrArg (Option.map _) findRow_AA
theorem tay : Statement (.tay) :=
  congrArg (Option.map _) findRow_A8
theorem txa : Statement (.txa) :=
  congrArg (Option.map _) findRow_8A
theorem tya : Statement (.tya) :=
  congrArg (Option.map _) findRow_98
theorem tsx : Statement (.tsx) :=
  congrArg (Option.map _) findRow_BA
theorem txs : Statement (.txs) :=
  congrArg (Option.map _) findRow_9A
theorem pha : Statement (.pha) :=
  congrArg (Option.map _) findRow_48
theorem php : Statement (.php) :=
  congrArg (Option.map _) findRow_08
theorem pla : Statement (.pla) :=
  congrArg (Option.map _) findRow_68
theorem plp : Statement (.plp) :=
  congrArg (Option.map _) findRow_28
theorem adcImm (d8 : Byte) : Statement (.adcImm d8) :=
  congrArg (Option.map _) findRow_69
theorem adcZp (d8 : Byte) : Statement (.adcZp d8) :=
  congrArg (Option.map _) findRow_65
theorem adcZpx (d8 : Byte) : Statement (.adcZpx d8) :=
  congrArg (Option.map _) findRow_75
theorem adcAbs (a16 : Addr) : Statement (.adcAbs a16) :=
  congrArg (Option.map _) findRow_6D
theorem adcAbsx (a16 : Addr) : Statement (.adcAbsx a16) :=
  congrArg (Option.map _) findRow_7D
theorem adcAbsy (a16 : Addr) : Statement (.adcAbsy a16) :=
  congrArg (Option.map _) findRow_79
theorem adcIndx (d8 : Byte) : Statement (.adcIndx d8) :=
  congrArg (Option.map _) findRow_61
theorem adcIndy (d8 : Byte) : Statement (.adcIndy d8) :=
  congrArg (Option.map _) findRow_71
theorem sbcImm (d8 : Byte) : Statement (.sbcImm d8) :=
  congrArg (Option.map _) findRow_E9
theorem sbcZp (d8 : Byte) : Statement (.sbcZp d8) :=
  congrArg (Option.map _) findRow_E5
theorem sbcZpx (d8 : Byte) : Statement (.sbcZpx d8) :=
  congrArg (Option.map _) findRow_F5
theorem sbcAbs (a16 : Addr) : Statement (.sbcAbs a16) :=
  congrArg (Option.map _) findRow_ED
theorem sbcAbsx (a16 : Addr) : Statement (.sbcAbsx a16) :=
  congrArg (Option.map _) findRow_FD
theorem sbcAbsy (a16 : Addr) : Statement (.sbcAbsy a16) :=
  congrArg (Option.map _) findRow_F9
theorem sbcIndx (d8 : Byte) : Statement (.sbcIndx d8) :=
  congrArg (Option.map _) findRow_E1
theorem sbcIndy (d8 : Byte) : Statement (.sbcIndy d8) :=
  congrArg (Option.map _) findRow_F1
theorem andImm (d8 : Byte) : Statement (.andImm d8) :=
  congrArg (Option.map _) findRow_29
theorem andZp (d8 : Byte) : Statement (.andZp d8) :=
  congrArg (Option.map _) findRow_25
theorem andZpx (d8 : Byte) : Statement (.andZpx d8) :=
  congrArg (Option.map _) findRow_35
theorem andAbs (a16 : Addr) : Statement (.andAbs a16) :=
  congrArg (Option.map _) findRow_2D
theorem andAbsx (a16 : Addr) : Statement (.andAbsx a16) :=
  congrArg (Option.map _) findRow_3D
theorem andAbsy (a16 : Addr) : Statement (.andAbsy a16) :=
  congrArg (Option.map _) findRow_39
theorem andIndx (d8 : Byte) : Statement (.andIndx d8) :=
  congrArg (Option.map _) findRow_21
theorem andIndy (d8 : Byte) : Statement (.andIndy d8) :=
  congrArg (Option.map _) findRow_31
theorem oraImm (d8 : Byte) : Statement (.oraImm d8) :=
  congrArg (Option.map _) findRow_09
theorem oraZp (d8 : Byte) : Statement (.oraZp d8) :=
  congrArg (Option.map _) findRow_05
theorem oraZpx (d8 : Byte) : Statement (.oraZpx d8) :=
  congrArg (Option.map _) findRow_15
theorem oraAbs (a16 : Addr) : Statement (.oraAbs a16) :=
  congrArg (Option.map _) findRow_0D
theorem oraAbsx (a16 : Addr) : Statement (.oraAbsx a16) :=
  congrArg (Option.map _) findRow_1D
theorem oraAbsy (a16 : Addr) : Statement (.oraAbsy a16) :=
  congrArg (Option.map _) findRow_19
theorem oraIndx (d8 : Byte) : Statement (.oraIndx d8) :=
  congrArg (Option.map _) findRow_01
theorem oraIndy (d8 : Byte) : Statement (.oraIndy d8) :=
  congrArg (Option.map _) findRow_11
theorem eorImm (d8 : Byte) : Statement (.eorImm d8) :=
  congrArg (Option.map _) findRow_49
theorem eorZp (d8 : Byte) : Statement (.eorZp d8) :=
  congrArg (Option.map _) findRow_45
theorem eorZpx (d8 : Byte) : Statement (.eorZpx d8) :=
  congrArg (Option.map _) findRow_55
theorem eorAbs (a16 : Addr) : Statement (.eorAbs a16) :=
  congrArg (Option.map _) findRow_4D
theorem eorAbsx (a16 : Addr) : Statement (.eorAbsx a16) :=
  congrArg (Option.map _) findRow_5D
theorem eorAbsy (a16 : Addr) : Statement (.eorAbsy a16) :=
  congrArg (Option.map _) findRow_59
theorem eorIndx (d8 : Byte) : Statement (.eorIndx d8) :=
  congrArg (Option.map _) findRow_41
theorem eorIndy (d8 : Byte) : Statement (.eorIndy d8) :=
  congrArg (Option.map _) findRow_51
theorem cmpImm (d8 : Byte) : Statement (.cmpImm d8) :=
  congrArg (Option.map _) findRow_C9
theorem cmpZp (d8 : Byte) : Statement (.cmpZp d8) :=
  congrArg (Option.map _) findRow_C5
theorem cmpZpx (d8 : Byte) : Statement (.cmpZpx d8) :=
  congrArg (Option.map _) findRow_D5
theorem cmpAbs (a16 : Addr) : Statement (.cmpAbs a16) :=
  congrArg (Option.map _) findRow_CD
theorem cmpAbsx (a16 : Addr) : Statement (.cmpAbsx a16) :=
  congrArg (Option.map _) findRow_DD
theorem cmpAbsy (a16 : Addr) : Statement (.cmpAbsy a16) :=
  congrArg (Option.map _) findRow_D9
theorem cmpIndx (d8 : Byte) : Statement (.cmpIndx d8) :=
  congrArg (Option.map _) findRow_C1
theorem cmpIndy (d8 : Byte) : Statement (.cmpIndy d8) :=
  congrArg (Option.map _) findRow_D1
theorem cpxImm (d8 : Byte) : Statement (.cpxImm d8) :=
  congrArg (Option.map _) findRow_E0
theorem cpxZp (d8 : Byte) : Statement (.cpxZp d8) :=
  congrArg (Option.map _) findRow_E4
theorem cpxAbs (a16 : Addr) : Statement (.cpxAbs a16) :=
  congrArg (Option.map _) findRow_EC
theorem cpyImm (d8 : Byte) : Statement (.cpyImm d8) :=
  congrArg (Option.map _) findRow_C0
theorem cpyZp (d8 : Byte) : Statement (.cpyZp d8) :=
  congrArg (Option.map _) findRow_C4
theorem cpyAbs (a16 : Addr) : Statement (.cpyAbs a16) :=
  congrArg (Option.map _) findRow_CC
theorem bitZp (d8 : Byte) : Statement (.bitZp d8) :=
  congrArg (Option.map _) findRow_24
theorem bitAbs (a16 : Addr) : Statement (.bitAbs a16) :=
  congrArg (Option.map _) findRow_2C
theorem incZp (d8 : Byte) : Statement (.incZp d8) :=
  congrArg (Option.map _) findRow_E6
theorem incZpx (d8 : Byte) : Statement (.incZpx d8) :=
  congrArg (Option.map _) findRow_F6
theorem incAbs (a16 : Addr) : Statement (.incAbs a16) :=
  congrArg (Option.map _) findRow_EE
theorem incAbsx (a16 : Addr) : Statement (.incAbsx a16) :=
  congrArg (Option.map _) findRow_FE
theorem decZp (d8 : Byte) : Statement (.decZp d8) :=
  congrArg (Option.map _) findRow_C6
theorem decZpx (d8 : Byte) : Statement (.decZpx d8) :=
  congrArg (Option.map _) findRow_D6
theorem decAbs (a16 : Addr) : Statement (.decAbs a16) :=
  congrArg (Option.map _) findRow_CE
theorem decAbsx (a16 : Addr) : Statement (.decAbsx a16) :=
  congrArg (Option.map _) findRow_DE
theorem inx : Statement (.inx) :=
  congrArg (Option.map _) findRow_E8
theorem iny : Statement (.iny) :=
  congrArg (Option.map _) findRow_C8
theorem dex : Statement (.dex) :=
  congrArg (Option.map _) findRow_CA
theorem dey : Statement (.dey) :=
  congrArg (Option.map _) findRow_88
theorem aslAcc : Statement (.aslAcc) :=
  congrArg (Option.map _) findRow_0A
theorem aslZp (d8 : Byte) : Statement (.aslZp d8) :=
  congrArg (Option.map _) findRow_06
theorem aslZpx (d8 : Byte) : Statement (.aslZpx d8) :=
  congrArg (Option.map _) findRow_16
theorem aslAbs (a16 : Addr) : Statement (.aslAbs a16) :=
  congrArg (Option.map _) findRow_0E
theorem aslAbsx (a16 : Addr) : Statement (.aslAbsx a16) :=
  congrArg (Option.map _) findRow_1E
theorem lsrAcc : Statement (.lsrAcc) :=
  congrArg (Option.map _) findRow_4A
theorem lsrZp (d8 : Byte) : Statement (.lsrZp d8) :=
  congrArg (Option.map _) findRow_46
theorem lsrZpx (d8 : Byte) : Statement (.lsrZpx d8) :=
  congrArg (Option.map _) findRow_56
theorem lsrAbs (a16 : Addr) : Statement (.lsrAbs a16) :=
  congrArg (Option.map _) findRow_4E
theorem lsrAbsx (a16 : Addr) : Statement (.lsrAbsx a16) :=
  congrArg (Option.map _) findRow_5E
theorem rolAcc : Statement (.rolAcc) :=
  congrArg (Option.map _) findRow_2A
theorem rolZp (d8 : Byte) : Statement (.rolZp d8) :=
  congrArg (Option.map _) findRow_26
theorem rolZpx (d8 : Byte) : Statement (.rolZpx d8) :=
  congrArg (Option.map _) findRow_36
theorem rolAbs (a16 : Addr) : Statement (.rolAbs a16) :=
  congrArg (Option.map _) findRow_2E
theorem rolAbsx (a16 : Addr) : Statement (.rolAbsx a16) :=
  congrArg (Option.map _) findRow_3E
theorem rorAcc : Statement (.rorAcc) :=
  congrArg (Option.map _) findRow_6A
theorem rorZp (d8 : Byte) : Statement (.rorZp d8) :=
  congrArg (Option.map _) findRow_66
theorem rorZpx (d8 : Byte) : Statement (.rorZpx d8) :=
  congrArg (Option.map _) findRow_76
theorem rorAbs (a16 : Addr) : Statement (.rorAbs a16) :=
  congrArg (Option.map _) findRow_6E
theorem rorAbsx (a16 : Addr) : Statement (.rorAbsx a16) :=
  congrArg (Option.map _) findRow_7E
theorem jmpAbs (a16 : Addr) : Statement (.jmpAbs a16) :=
  congrArg (Option.map _) findRow_4C
theorem jmpInd (a16 : Addr) : Statement (.jmpInd a16) :=
  congrArg (Option.map _) findRow_6C
theorem jsr (a16 : Addr) : Statement (.jsr a16) :=
  congrArg (Option.map _) findRow_20
theorem rts : Statement (.rts) :=
  congrArg (Option.map _) findRow_60
theorem bcc (rel : Byte) : Statement (.bcc rel) :=
  congrArg (Option.map _) findRow_90
theorem bcs (rel : Byte) : Statement (.bcs rel) :=
  congrArg (Option.map _) findRow_B0
theorem beq (rel : Byte) : Statement (.beq rel) :=
  congrArg (Option.map _) findRow_F0
theorem bne (rel : Byte) : Statement (.bne rel) :=
  congrArg (Option.map _) findRow_D0
theorem bmi (rel : Byte) : Statement (.bmi rel) :=
  congrArg (Option.map _) findRow_30
theorem bpl (rel : Byte) : Statement (.bpl rel) :=
  congrArg (Option.map _) findRow_10
theorem bvc (rel : Byte) : Statement (.bvc rel) :=
  congrArg (Option.map _) findRow_50
theorem bvs (rel : Byte) : Statement (.bvs rel) :=
  congrArg (Option.map _) findRow_70
theorem clc : Statement (.clc) :=
  congrArg (Option.map _) findRow_18
theorem sec : Statement (.sec) :=
  congrArg (Option.map _) findRow_38
theorem cli : Statement (.cli) :=
  congrArg (Option.map _) findRow_58
theorem sei : Statement (.sei) :=
  congrArg (Option.map _) findRow_78
theorem cld : Statement (.cld) :=
  congrArg (Option.map _) findRow_D8
theorem sed : Statement (.sed) :=
  congrArg (Option.map _) findRow_F8
theorem clv : Statement (.clv) :=
  congrArg (Option.map _) findRow_B8
theorem nop : Statement (.nop) :=
  congrArg (Option.map _) findRow_EA
theorem brk : Statement (.brk) :=
  congrArg (Option.map _) findRow_00
theorem rti : Statement (.rti) :=
  congrArg (Option.map _) findRow_40

end Sys2Proof.Laws.EncodeShape
end

