-- ==== Sys2Proof/Laws/Step.lean ====
section
/-! SUPPORT. What one step can be, said once: the inversion of `step` into its cases, and how a property that survives bus
writes and changes of CPU registers survives an instruction, an interrupt entry and a step. -/

namespace Sys2Proof.Machine

/-! ### The fetch -/

/-- The opcode of a row found: the fetch reads as many operand bytes as the row has, and succeeds (R101). -/
theorem fetch_of_row {b : State} {r : OpRow} (h : findRow (memRead b b.pc) = some r) :
    fetch b = .ok (r.make (if 2 ≤ r.mode.length then memRead b (b.pc + 1) else 0)
      (if 3 ≤ r.mode.length then memRead b (b.pc + 2) else 0)) := by
  have hl : lengthOf (memRead b b.pc) = r.mode.length := by simp [lengthOf, h]
  unfold fetch fetchBytes
  rw [hl]
  cases hm : r.mode <;> simp [hm, Mode.length, List.range_succ, decode, h, OpRow.read]

/-- An opcode with no row: the fetch fails after that one byte (R101, R261). -/
theorem fetch_of_no_row {b : State} (h : findRow (memRead b b.pc) = none) :
    fetch b = .error (.illegalOpcode (memRead b b.pc)) := by
  have hl : lengthOf (memRead b b.pc) = 1 := by simp [lengthOf, h]
  unfold fetch fetchBytes
  simp [hl, decode, h]

/-! ### A step that answers a next state is one of two things -/

/-- Every instruction completes in every state. -/
theorem exec_next (i : Instr) (s : State) : ∃ t, exec i s = .next t := by
  cases i <;> exact ⟨_, rfl⟩

/-- An instruction is always executed to the end of the step. -/
theorem runInstr_next (i : Instr) (s : State) : ∃ u, exec i (advance i s) = .next u ∧
    runInstr i s = .next (finishStep (cyclesOf i (advance i s)) u) := by
  obtain ⟨u, h⟩ := exec_next i (advance i s)
  exact ⟨u, h, by simp [runInstr, h]⟩

/-- A step of a machine that is not halted, when no interrupt is taken at the boundary. -/
theorem step_no_interrupt {s : State} (h : s.halted = none) (hn : pendingNmi (deliverInputs s) = false)
    (hi : pendingIrq (deliverInputs s) = false ∨ s.p.i = true) : step s = executeOne (deliverInputs s) := by
  have : (pendingIrq (deliverInputs s) && !s.p.i) = false := by rcases hi with hi | hi <;> simp [hi]
  simp [step, h, stepBoundary, hn, this]

/-- A step that answers a next state is an interrupt entry or one instruction, after the host inputs took effect. -/
theorem step_cases {s t : State} (h : step s = .next t) :
    s.halted = none ∧
    ((∃ kind, t = finishStep Config.intEntryCycles (interruptEntry kind (deliverInputs s)) ∧
        (kind = .nmi ↔ pendingNmi (deliverInputs s) = true) ∧
        (kind = .irq → pendingIrq (deliverInputs s) = true ∧ s.p.i = false)) ∨
      ∃ i u, pendingNmi (deliverInputs s) = false ∧ fetch (deliverInputs s) = .ok i ∧
        exec i (advance i (deliverInputs s)) = .next u ∧
        t = finishStep (cyclesOf i (advance i (deliverInputs s))) u) := by
  unfold step at h
  split at h
  · cases h
  · rename_i hh
    refine ⟨hh, ?_⟩
    unfold stepBoundary at h
    split at h
    · rename_i hn
      injection h with h
      exact .inl ⟨.nmi, h.symm, by simp [hn], by simp⟩
    · rename_i hn
      split at h
      · rename_i hi
        injection h with h
        simp only [Bool.and_eq_true, Bool.not_eq_true', deliverInputs_p] at hi
        exact .inl ⟨.irq, h.symm, by simpa using hn, fun _ => hi⟩
      · unfold executeOne at h
        split at h
        · rename_i i hf
          unfold runInstr at h
          split at h
          · rename_i u hu
            injection h with h
            exact .inr ⟨i, u, by simpa using hn, hf, hu, h.symm⟩
          · cases h
          · cases h
        · cases h

/-- A step that faults found an opcode with no row, and leaves the boundary's state with the fault latched (R261). -/
theorem step_fault {s : State} {f : Fault} (h : step s = .fault f) :
    s.halted = none ∧ pendingNmi (deliverInputs s) = false ∧
    findRow (memRead (deliverInputs s) s.pc) = none ∧
    f = .illegalOpcode s.pc (memRead (deliverInputs s) s.pc)
      { deliverInputs s with halted := some { addr := s.pc, opcode := memRead (deliverInputs s) s.pc } } := by
  unfold step at h
  split at h
  · cases h
  · rename_i hh
    unfold stepBoundary at h
    split at h
    · cases h
    · rename_i hn
      split at h
      · cases h
      · unfold executeOne at h
        split at h
        · rename_i i _
          obtain ⟨u, _, hu⟩ := runInstr_next i (deliverInputs s)
          rw [hu] at h; cases h
        · rename_i e he
          refine ⟨hh, by simpa using hn, ?_, ?_⟩
          · cases hr : findRow (memRead (deliverInputs s) (deliverInputs s).pc) with
            | none => simpa using hr
            | some r => rw [fetch_of_row hr] at he; cases he
          · unfold raiseIllegal at h
            injection h with h
            rw [← h]
            simp

/-- Only a halted machine refuses (R262). -/
theorem step_refused {s : State} {r : Refusal} (h : step s = .refused r) : ∃ f, s.halted = some f ∧ r = .halted f := by
  unfold step at h
  split at h
  · rename_i f hf
    injection h with h
    exact ⟨f, hf, h.symm⟩
  · exfalso
    unfold stepBoundary at h
    split at h
    · cases h
    · split at h
      · cases h
      · unfold executeOne at h
        split at h
        · rename_i i _
          obtain ⟨u, _, hu⟩ := runInstr_next i (deliverInputs s)
          rw [hu] at h; cases h
        · cases h

/-! ### Runs -/

/-- A run starts with a step. -/
theorem run_of_step {s u : State} (h : step s = .next u) (n : Nat) : core.run (n + 1) s = core.run n u := by
  have h' : core.step s = .next u := h
  simp only [Host.Core.run, h']

/-- A run that completes started with a step that completed. -/
theorem run_succ_next {n : Nat} {s t : State} (h : core.run (n + 1) s = .next t) :
    ∃ u, step s = .next u ∧ core.run n u = .next t := by
  cases hs : step s with
  | next u => exact ⟨u, rfl, by rw [← run_of_step hs]; exact h⟩
  | fault f =>
    have h' : core.step s = .fault f := hs
    simp [Host.Core.run, h'] at h
  | refused r =>
    have h' : core.step s = .refused r := hs
    simp [Host.Core.run, h'] at h

/-! ### What survives bus writes and register changes survives a step -/

/-- The two states differ in CPU registers, the fault latch, the cycle counter and the draw counter at most. -/
structure SameBus (s t : State) : Prop where
  config : t.config = s.config
  mem : t.mem = s.mem
  ic : t.ic = s.ic
  kbd : t.kbd = s.kbd
  crtc : t.crtc = s.crtc
  matrix : t.matrix = s.matrix
  inputs : t.inputs = s.inputs

/-- A property of the bus side of the machine: it looks at no CPU register and a bus write keeps it. -/
structure BusProperty (P : State → Prop) : Prop where
  same : ∀ s t : State, SameBus s t → P s → P t
  write : ∀ (s : State) (b : Addr) (v : Byte), P s → P (memWrite s b v)

namespace BusProperty

variable {P : State → Prop} (hP : BusProperty P)

include hP

theorem cpu {s t : State} (h : P s) (hs : SameBus s t) : P t := hP.same s t hs h

theorem of_push {s : State} (v : Byte) (h : P s) : P (push v s) :=
  hP.cpu (hP.write s (stackAddr s.sp) v h) ⟨rfl, rfl, rfl, rfl, rfl, rfl, rfl⟩

theorem of_pushWord {s : State} (w : Addr) (h : P s) : P (pushWord w s) := hP.of_push _ (hP.of_push _ h)

theorem of_takeException {s : State} (ret : Addr) (b : Bool) (w : Addr) (h : P s) : P (takeException ret b w s) :=
  hP.cpu (hP.of_push _ (hP.of_pushWord ret h)) ⟨rfl, rfl, rfl, rfl, rfl, rfl, rfl⟩

theorem of_addWithCarry {s : State} (m : Byte) (h : P s) : P (addWithCarry m s) := by
  refine hP.cpu h ?_
  unfold addWithCarry
  dsimp only
  repeat' split
  all_goals exact ⟨rfl, rfl, rfl, rfl, rfl, rfl, rfl⟩

theorem of_subtractWithBorrow {s : State} (m : Byte) (h : P s) : P (subtractWithBorrow m s) := by
  refine hP.cpu h ?_
  unfold subtractWithBorrow
  dsimp only
  repeat' split
  all_goals exact ⟨rfl, rfl, rfl, rfl, rfl, rfl, rfl⟩

theorem of_branch {s : State} (c : BranchCond) (rel : Byte) (h : P s) : P (branch c rel s) := by
  refine hP.cpu h ?_
  unfold branch
  split
  all_goals exact ⟨rfl, rfl, rfl, rfl, rfl, rfl, rfl⟩

theorem of_storeAt {s : State} (o : MemOperand) (v : Byte) (h : P s) : P (storeAt o v s) := hP.write s _ _ h

theorem of_increment {s : State} (o : MemOperand) (h : P s) : P (increment o s) :=
  hP.cpu (hP.write s (ea s o) (readOperand s o + 1) h) ⟨rfl, rfl, rfl, rfl, rfl, rfl, rfl⟩

theorem of_decrement {s : State} (o : MemOperand) (h : P s) : P (decrement o s) :=
  hP.cpu (hP.write s (ea s o) (readOperand s o - 1) h) ⟨rfl, rfl, rfl, rfl, rfl, rfl, rfl⟩

theorem of_shiftAt {s : State} (f : ShiftOp) (o : MemOperand) (h : P s) : P (shiftAt f o s) :=
  hP.cpu (hP.write s (ea s o) (f (readOperand s o) s.p.c).1 h) ⟨rfl, rfl, rfl, rfl, rfl, rfl, rfl⟩

theorem of_jumpToSubroutine {s : State} (target : Addr) (h : P s) : P (jumpToSubroutine target s) :=
  hP.cpu (hP.of_pushWord (s.pc - 1) h) ⟨rfl, rfl, rfl, rfl, rfl, rfl, rfl⟩

/-- A bus property survives every instruction. -/
theorem of_exec {i : Instr} {s t : State} (he : exec i s = .next t) (h : P s) : P t := by
  cases i <;> injection he with he <;> subst he <;>
    first
      | with_reducible exact hP.of_addWithCarry _ h
      | with_reducible exact hP.of_subtractWithBorrow _ h
      | with_reducible exact hP.of_storeAt _ _ h
      | with_reducible exact hP.of_increment _ h
      | with_reducible exact hP.of_decrement _ h
      | with_reducible exact hP.of_shiftAt _ _ h
      | with_reducible exact hP.of_branch _ _ h
      | with_reducible exact hP.of_push _ h
      | with_reducible exact hP.of_takeException _ _ _ h
      | with_reducible exact hP.of_jumpToSubroutine _ h
      | exact hP.cpu h ⟨rfl, rfl, rfl, rfl, rfl, rfl, rfl⟩

end BusProperty

end Sys2Proof.Machine
end

