-- ==== Sys2Proof/Tests/Slice0.lean ====
section
/-! SUPPORT. Tests. The expected results come from spec/: the words from the grid of spec/30_encoding.md R120, the one-step
results from the vectors of spec/95_test_vectors.md under their ids. After them, for every statement with hypotheses, a
concrete input that meets them together. -/

namespace Sys2Proof.Tests

open Sys2Proof Sys2Proof.Machine

/-! ### Decoding: one word per constructor (R120, operand bytes R103) -/

/-- The bytes decode to the instruction, all of them used, and the instruction encodes to them. -/
def decodesTo (bs : List Byte) (i : Instr) : Bool :=
  (match decode bs with | .ok (j, rest) => decide (j = i) && rest.isEmpty | .error _ => false) && encode i == bs

theorem test_decode_LoadStore_1 :
    (decodesTo [0xA9, 0x9C] (.ldaImm 0x9C) &&
     decodesTo [0xA5, 0x9C] (.ldaZp 0x9C) &&
     decodesTo [0xB5, 0x9C] (.ldaZpx 0x9C) &&
     decodesTo [0xAD, 0x34, 0x12] (.ldaAbs 0x1234) &&
     decodesTo [0xBD, 0x34, 0x12] (.ldaAbsx 0x1234) &&
     decodesTo [0xB9, 0x34, 0x12] (.ldaAbsy 0x1234) &&
     decodesTo [0xA1, 0x9C] (.ldaIndx 0x9C) &&
     decodesTo [0xB1, 0x9C] (.ldaIndy 0x9C) &&
     decodesTo [0xA2, 0x9C] (.ldxImm 0x9C) &&
     decodesTo [0xA6, 0x9C] (.ldxZp 0x9C) &&
     decodesTo [0xB6, 0x9C] (.ldxZpy 0x9C) &&
     decodesTo [0xAE, 0x34, 0x12] (.ldxAbs 0x1234) &&
     decodesTo [0xBE, 0x34, 0x12] (.ldxAbsy 0x1234) &&
     decodesTo [0xA0, 0x9C] (.ldyImm 0x9C) &&
     decodesTo [0xA4, 0x9C] (.ldyZp 0x9C) &&
     decodesTo [0xB4, 0x9C] (.ldyZpx 0x9C) &&
     decodesTo [0xAC, 0x34, 0x12] (.ldyAbs 0x1234) &&
     decodesTo [0xBC, 0x34, 0x12] (.ldyAbsx 0x1234) &&
     decodesTo [0x85, 0x9C] (.staZp 0x9C) &&
     decodesTo [0x95, 0x9C] (.staZpx 0x9C)) = true := by decide

theorem test_decode_LoadStore_2 :
    (decodesTo [0x8D, 0x34, 0x12] (.staAbs 0x1234) &&
     decodesTo [0x9D, 0x34, 0x12] (.staAbsx 0x1234) &&
     decodesTo [0x99, 0x34, 0x12] (.staAbsy 0x1234) &&
     decodesTo [0x81, 0x9C] (.staIndx 0x9C) &&
     decodesTo [0x91, 0x9C] (.staIndy 0x9C) &&
     decodesTo [0x86, 0x9C] (.stxZp 0x9C) &&
     decodesTo [0x96, 0x9C] (.stxZpy 0x9C) &&
     decodesTo [0x8E, 0x34, 0x12] (.stxAbs 0x1234) &&
     decodesTo [0x84, 0x9C] (.styZp 0x9C) &&
     decodesTo [0x94, 0x9C] (.styZpx 0x9C) &&
     decodesTo [0x8C, 0x34, 0x12] (.styAbs 0x1234) &&
     decodesTo [0xAA] (.tax) &&
     decodesTo [0xA8] (.tay) &&
     decodesTo [0x8A] (.txa) &&
     decodesTo [0x98] (.tya) &&
     decodesTo [0xBA] (.tsx) &&
     decodesTo [0x9A] (.txs)) = true := by decide

theorem test_decode_Stack :
    (decodesTo [0x48] (.pha) &&
     decodesTo [0x08] (.php) &&
     decodesTo [0x68] (.pla) &&
     decodesTo [0x28] (.plp)) = true := by decide

theorem test_decode_ArithLogic_1 :
    (decodesTo [0x69, 0x9C] (.adcImm 0x9C) &&
     decodesTo [0x65, 0x9C] (.adcZp 0x9C) &&
     decodesTo [0x75, 0x9C] (.adcZpx 0x9C) &&
     decodesTo [0x6D, 0x34, 0x12] (.adcAbs 0x1234) &&
     decodesTo [0x7D, 0x34, 0x12] (.adcAbsx 0x1234) &&
     decodesTo [0x79, 0x34, 0x12] (.adcAbsy 0x1234) &&
     decodesTo [0x61, 0x9C] (.adcIndx 0x9C) &&
     decodesTo [0x71, 0x9C] (.adcIndy 0x9C) &&
     decodesTo [0xE9, 0x9C] (.sbcImm 0x9C) &&
     decodesTo [0xE5, 0x9C] (.sbcZp 0x9C) &&
     decodesTo [0xF5, 0x9C] (.sbcZpx 0x9C) &&
     decodesTo [0xED, 0x34, 0x12] (.sbcAbs 0x1234) &&
     decodesTo [0xFD, 0x34, 0x12] (.sbcAbsx 0x1234) &&
     decodesTo [0xF9, 0x34, 0x12] (.sbcAbsy 0x1234) &&
     decodesTo [0xE1, 0x9C] (.sbcIndx 0x9C) &&
     decodesTo [0xF1, 0x9C] (.sbcIndy 0x9C) &&
     decodesTo [0x29, 0x9C] (.andImm 0x9C) &&
     decodesTo [0x25, 0x9C] (.andZp 0x9C) &&
     decodesTo [0x35, 0x9C] (.andZpx 0x9C) &&
     decodesTo [0x2D, 0x34, 0x12] (.andAbs 0x1234)) = true := by decide

theorem test_decode_ArithLogic_2 :
    (decodesTo [0x3D, 0x34, 0x12] (.andAbsx 0x1234) &&
     decodesTo [0x39, 0x34, 0x12] (.andAbsy 0x1234) &&
     decodesTo [0x21, 0x9C] (.andIndx 0x9C) &&
     decodesTo [0x31, 0x9C] (.andIndy 0x9C) &&
     decodesTo [0x09, 0x9C] (.oraImm 0x9C) &&
     decodesTo [0x05, 0x9C] (.oraZp 0x9C) &&
     decodesTo [0x15, 0x9C] (.oraZpx 0x9C) &&
     decodesTo [0x0D, 0x34, 0x12] (.oraAbs 0x1234) &&
     decodesTo [0x1D, 0x34, 0x12] (.oraAbsx 0x1234) &&
     decodesTo [0x19, 0x34, 0x12] (.oraAbsy 0x1234) &&
     decodesTo [0x01, 0x9C] (.oraIndx 0x9C) &&
     decodesTo [0x11, 0x9C] (.oraIndy 0x9C) &&
     decodesTo [0x49, 0x9C] (.eorImm 0x9C) &&
     decodesTo [0x45, 0x9C] (.eorZp 0x9C) &&
     decodesTo [0x55, 0x9C] (.eorZpx 0x9C) &&
     decodesTo [0x4D, 0x34, 0x12] (.eorAbs 0x1234) &&
     decodesTo [0x5D, 0x34, 0x12] (.eorAbsx 0x1234) &&
     decodesTo [0x59, 0x34, 0x12] (.eorAbsy 0x1234) &&
     decodesTo [0x41, 0x9C] (.eorIndx 0x9C) &&
     decodesTo [0x51, 0x9C] (.eorIndy 0x9C)) = true := by decide

theorem test_decode_ArithLogic_3 :
    (decodesTo [0xC9, 0x9C] (.cmpImm 0x9C) &&
     decodesTo [0xC5, 0x9C] (.cmpZp 0x9C) &&
     decodesTo [0xD5, 0x9C] (.cmpZpx 0x9C) &&
     decodesTo [0xCD, 0x34, 0x12] (.cmpAbs 0x1234) &&
     decodesTo [0xDD, 0x34, 0x12] (.cmpAbsx 0x1234) &&
     decodesTo [0xD9, 0x34, 0x12] (.cmpAbsy 0x1234) &&
     decodesTo [0xC1, 0x9C] (.cmpIndx 0x9C) &&
     decodesTo [0xD1, 0x9C] (.cmpIndy 0x9C) &&
     decodesTo [0xE0, 0x9C] (.cpxImm 0x9C) &&
     decodesTo [0xE4, 0x9C] (.cpxZp 0x9C) &&
     decodesTo [0xEC, 0x34, 0x12] (.cpxAbs 0x1234) &&
     decodesTo [0xC0, 0x9C] (.cpyImm 0x9C) &&
     decodesTo [0xC4, 0x9C] (.cpyZp 0x9C) &&
     decodesTo [0xCC, 0x34, 0x12] (.cpyAbs 0x1234) &&
     decodesTo [0x24, 0x9C] (.bitZp 0x9C) &&
     decodesTo [0x2C, 0x34, 0x12] (.bitAbs 0x1234) &&
     decodesTo [0xE6, 0x9C] (.incZp 0x9C) &&
     decodesTo [0xF6, 0x9C] (.incZpx 0x9C) &&
     decodesTo [0xEE, 0x34, 0x12] (.incAbs 0x1234) &&
     decodesTo [0xFE, 0x34, 0x12] (.incAbsx 0x1234)) = true := by decide

theorem test_decode_ArithLogic_4 :
    (decodesTo [0xC6, 0x9C] (.decZp 0x9C) &&
     decodesTo [0xD6, 0x9C] (.decZpx 0x9C) &&
     decodesTo [0xCE, 0x34, 0x12] (.decAbs 0x1234) &&
     decodesTo [0xDE, 0x34, 0x12] (.decAbsx 0x1234) &&
     decodesTo [0xE8] (.inx) &&
     decodesTo [0xC8] (.iny) &&
     decodesTo [0xCA] (.dex) &&
     decodesTo [0x88] (.dey)) = true := by decide

theorem test_decode_ShiftRotate :
    (decodesTo [0x0A] (.aslAcc) &&
     decodesTo [0x06, 0x9C] (.aslZp 0x9C) &&
     decodesTo [0x16, 0x9C] (.aslZpx 0x9C) &&
     decodesTo [0x0E, 0x34, 0x12] (.aslAbs 0x1234) &&
     decodesTo [0x1E, 0x34, 0x12] (.aslAbsx 0x1234) &&
     decodesTo [0x4A] (.lsrAcc) &&
     decodesTo [0x46, 0x9C] (.lsrZp 0x9C) &&
     decodesTo [0x56, 0x9C] (.lsrZpx 0x9C) &&
     decodesTo [0x4E, 0x34, 0x12] (.lsrAbs 0x1234) &&
     decodesTo [0x5E, 0x34, 0x12] (.lsrAbsx 0x1234) &&
     decodesTo [0x2A] (.rolAcc) &&
     decodesTo [0x26, 0x9C] (.rolZp 0x9C) &&
     decodesTo [0x36, 0x9C] (.rolZpx 0x9C) &&
     decodesTo [0x2E, 0x34, 0x12] (.rolAbs 0x1234) &&
     decodesTo [0x3E, 0x34, 0x12] (.rolAbsx 0x1234) &&
     decodesTo [0x6A] (.rorAcc) &&
     decodesTo [0x66, 0x9C] (.rorZp 0x9C) &&
     decodesTo [0x76, 0x9C] (.rorZpx 0x9C) &&
     decodesTo [0x6E, 0x34, 0x12] (.rorAbs 0x1234) &&
     decodesTo [0x7E, 0x34, 0x12] (.rorAbsx 0x1234)) = true := by decide

theorem test_decode_ControlFlow :
    (decodesTo [0x4C, 0x34, 0x12] (.jmpAbs 0x1234) &&
     decodesTo [0x6C, 0x34, 0x12] (.jmpInd 0x1234) &&
     decodesTo [0x20, 0x34, 0x12] (.jsr 0x1234) &&
     decodesTo [0x60] (.rts) &&
     decodesTo [0x90, 0x9C] (.bcc 0x9C) &&
     decodesTo [0xB0, 0x9C] (.bcs 0x9C) &&
     decodesTo [0xF0, 0x9C] (.beq 0x9C) &&
     decodesTo [0xD0, 0x9C] (.bne 0x9C) &&
     decodesTo [0x30, 0x9C] (.bmi 0x9C) &&
     decodesTo [0x10, 0x9C] (.bpl 0x9C) &&
     decodesTo [0x50, 0x9C] (.bvc 0x9C) &&
     decodesTo [0x70, 0x9C] (.bvs 0x9C)) = true := by decide

theorem test_decode_FlagsSystem :
    (decodesTo [0x18] (.clc) &&
     decodesTo [0x38] (.sec) &&
     decodesTo [0x58] (.cli) &&
     decodesTo [0x78] (.sei) &&
     decodesTo [0xD8] (.cld) &&
     decodesTo [0xF8] (.sed) &&
     decodesTo [0xB8] (.clv) &&
     decodesTo [0xEA] (.nop) &&
     decodesTo [0x00] (.brk) &&
     decodesTo [0x40] (.rti)) = true := by decide

/-- The numbering of the opcode table: the first byte is the low one; `nbits` may be shorter than the instruction. -/
theorem test_decode_table_word :
    decodeTableWord 24 0x02008D = some (.staAbs 0x0200) ∧ decodeTableWord 8 0xA9 = some (.ldaImm 0x00) ∧
      decodeTableWord 8 0x02 = none := by decide

/-! ### Ill-formed terms are refused -/

theorem test_wf_default : Config.default.wf = true := by decide
theorem test_wf_range_upside_down : Config.rangesWf [⟨0x0001, 0x0000, .ram⟩] = false := by decide
theorem test_wf_wide_register : Config.rangesWf [⟨0xFE00, 0xFE01, .crtcAddr⟩] = false := by decide
theorem test_wf_overlap : Config.noOverlap [⟨0x0000, 0x8000, .ram⟩, ⟨0x8000, 0xFFFF, .rom⟩] = false := by decide
theorem test_wf_hole : Config.total [⟨0x0000, 0x7FFF, .ram⟩, ⟨0x8001, 0xFFFF, .rom⟩] = false := by decide
theorem test_wf_register_missing : Config.registersOnce (Config.defaultMap.drop 3) = false := by decide
theorem test_wf_register_twice :
    Config.registersOnce (⟨0x0000, 0x0000, .icAck⟩ :: Config.defaultMap) = false := by decide
theorem test_wf_equal_patterns :
    Config.paramsWf { Config.default with kbdDisablePattern := 0x0B } = false := by decide
theorem test_wf_tick_interval_zero : Config.paramsWf { Config.default with kbdTickInterval := 0 } = false := by decide
theorem test_wf_ack_bit_out_of_range :
    Config.extraWf ⟨"via", .irq, .edge, some 7⟩ = false ∧ Config.extraWf ⟨"via", .irq, .edge, some 1⟩ = false ∧
      Config.extraWf ⟨"via", .irq, .edge, some 2⟩ = true ∧ Config.extraWf ⟨"via", .irq, .edge, some 6⟩ = true := by decide
theorem test_wf_edge_irq_without_ack_bit : Config.extraWf ⟨"via", .irq, .edge, none⟩ = false := by decide
theorem test_wf_ack_bit_twice :
    Config.paramsWf { Config.default with
      extraSources := [⟨"via", .irq, .edge, some 2⟩, ⟨"acia", .irq, .level, some 2⟩] } = false := by decide
theorem test_register_addresses_default : mapWithRegisters {} = Config.defaultMap := by decide

/-! ### One step (spec/95_test_vectors.md sections 2.1 to 2.7; `DECIMAL_NVZ = nmos`) -/

/-- The default start of section 2: A, X, Y and memory 0, SP $FF, flags 0 but I, PC $0600. -/
def vs : State :=
  { State.reset with sp := 0xFF, pc := 0x0600, config := { Config.default with decimalNvz := .nmos } }

/-- The six flags in the order of the tables of spec/95: N V D I Z C. -/
def fl (n v d i z c : Nat) : Flags :=
  { n := n == 1, v := v == 1, d := d == 1, i := i == 1, z := z == 1, c := c == 1 }

/-- One step over the bytes loaded at PC and the cells loaded beforehand gives the wanted state, after which `stored` are
the memory bytes changed: every register and byte not named is as before. -/
def runsTo (bytes : List Byte) (cells : List Host.Cell) (start : State) (want : State → State) (cycles : Nat)
    (stored : List Host.Cell) : Bool :=
  match step (loadBytes bytes start.pc (loadImage cells start)) with
  | .next t =>
    decide (t = loadImage stored { want (loadBytes bytes start.pc (loadImage cells start)) with cycles := cycles })
  | .fault _ => false
  | .refused _ => false

theorem test_LS6_ldaAbsx : runsTo [0xBD, 0xF0, 0x12] [(0x1310, 0x99)] { vs with x := 0x20 }
    (fun s => { s with a := 0x99, pc := 0x0603, p := fl 1 0 0 1 0 0 }) 5 [] = true := by decide
theorem test_LS11_ldaIndy : runsTo [0xB1, 0xFF] [(0x00FF, 0x00), (0x0000, 0x03), (0x0301, 0x66), (0x0100, 0x04)]
    { vs with y := 0x01 }
    (fun s => { s with a := 0x66, pc := 0x0602, p := fl 0 0 0 1 0 0 }) 5 [] = true := by decide
theorem test_LS12_ldxZpy : runsTo [0xB6, 0xFF] [(0x0001, 0x81)] { vs with y := 0x02 }
    (fun s => { s with x := 0x81, pc := 0x0602, p := fl 1 0 0 1 0 0 }) 4 [] = true := by decide
theorem test_LS13_ldxAbsy : runsTo [0xBE, 0x80, 0x02] [(0x0300, 0x00)] { vs with x := 0x11, y := 0x80 }
    (fun s => { s with x := 0x00, pc := 0x0603, p := fl 0 0 0 1 1 0 }) 5 [] = true := by decide
theorem test_LS14_ldyAbsx : runsTo [0xBC, 0x00, 0x03] [(0x03FF, 0x40)] { vs with x := 0xFF }
    (fun s => { s with y := 0x40, pc := 0x0603, p := fl 0 0 0 1 0 0 }) 4 [] = true := by decide
theorem test_LS16_staAbsx : runsTo [0x9D, 0xF0, 0x12] [] { vs with a := 0x3C, x := 0x20 }
    (fun s => { s with pc := 0x0603, p := fl 0 0 0 1 0 0 }) 5 [(0x1310, 0x3C)] = true := by decide
theorem test_LS19_staIndy : runsTo [0x91, 0x10] [(0x0010, 0x01), (0x0011, 0x04)] { vs with a := 0xEE, y := 0xFF }
    (fun s => { s with pc := 0x0602, p := fl 0 0 0 1 0 0 }) 6 [(0x0500, 0xEE)] = true := by decide
theorem test_LS20_stxZpy : runsTo [0x96, 0x80] [] { vs with x := 0x12, y := 0x90 }
    (fun s => { s with pc := 0x0602, p := fl 0 0 0 1 0 0 }) 4 [(0x0010, 0x12)] = true := by decide
theorem test_LS21_styAbs : runsTo [0x8C, 0x00, 0x90] [] { vs with y := 0x12 }
    (fun s => { s with pc := 0x0603, p := fl 0 0 0 1 0 0 }) 4 [(0x9000, 0x00)] = true := by decide
theorem test_LS22_tax : runsTo [0xAA] [] { vs with a := 0x80 }
    (fun s => { s with x := 0x80, pc := 0x0601, p := fl 1 0 0 1 0 0 }) 2 [] = true := by decide
theorem test_LS23_tay : runsTo [0xA8] [] { vs with a := 0x00, y := 0x01 }
    (fun s => { s with y := 0x00, pc := 0x0601, p := fl 0 0 0 1 1 0 }) 2 [] = true := by decide
theorem test_LS24_txa : runsTo [0x8A] [] { vs with a := 0xFF, x := 0x41, p := { vs.p with n := true } }
    (fun s => { s with a := 0x41, pc := 0x0601, p := fl 0 0 0 1 0 0 }) 2 [] = true := by decide
theorem test_LS25_tsx : runsTo [0xBA] [] { vs with x := 0x55, sp := 0x00 }
    (fun s => { s with x := 0x00, pc := 0x0601, p := fl 0 0 0 1 1 0 }) 2 [] = true := by decide
theorem test_LS26_txs : runsTo [0x9A] [] { vs with x := 0x00, sp := 0xFF, p := { vs.p with n := true, z := false } }
    (fun s => { s with sp := 0x00, pc := 0x0601, p := fl 1 0 0 1 0 0 }) 2 [] = true := by decide
theorem test_ST2_pha : runsTo [0x48] [] { vs with a := 0x42, sp := 0x00 }
    (fun s => { s with sp := 0xFF, pc := 0x0601, p := fl 0 0 0 1 0 0 }) 3 [(0x0100, 0x42)] = true := by decide
theorem test_ST3_php : runsTo [0x08] [] { vs with p := fl 1 1 1 1 1 1 }
    (fun s => { s with sp := 0xFE, pc := 0x0601, p := fl 1 1 1 1 1 1 }) 3 [(0x01FF, 0xFF)] = true := by decide
theorem test_ST4_php : runsTo [0x08] [] { vs with p := fl 0 0 0 0 0 0 }
    (fun s => { s with sp := 0xFE, pc := 0x0601, p := fl 0 0 0 0 0 0 }) 3 [(0x01FF, 0x30)] = true := by decide
theorem test_ST5_pla : runsTo [0x68] [(0x0100, 0x80)] { vs with sp := 0xFF }
    (fun s => { s with a := 0x80, sp := 0x00, pc := 0x0601, p := fl 1 0 0 1 0 0 }) 4 [] = true := by decide
theorem test_ST7_plp : runsTo [0x28] [(0x01FF, 0xFF)] { vs with sp := 0xFE, p := { vs.p with i := false } }
    (fun s => { s with sp := 0xFF, pc := 0x0601, p := fl 1 1 1 1 1 1 }) 4 [] = true := by decide
theorem test_ST9_plp : runsTo [0x28] [(0x01FF, 0x30)] { vs with sp := 0xFE, p := { vs.p with i := true, c := true } }
    (fun s => { s with sp := 0xFF, pc := 0x0601, p := fl 0 0 0 0 0 0 }) 4 [] = true := by decide
theorem test_AR2_adcImm : runsTo [0x69, 0x01] [] { vs with a := 0x7F, p := { vs.p with c := false } }
    (fun s => { s with a := 0x80, pc := 0x0602, p := fl 1 1 0 1 0 0 }) 2 [] = true := by decide
theorem test_AR12_adcImm : runsTo [0x69, 0x46] [] { vs with a := 0x58, p := { vs.p with d := true, c := true } }
    (fun s => { s with a := 0x05, pc := 0x0602, p := fl 1 1 1 1 0 1 }) 2 [] = true := by decide
theorem test_AR10_sbcImm : runsTo [0xE9, 0xB0] [] { vs with a := 0x50, p := { vs.p with c := true } }
    (fun s => { s with a := 0xA0, pc := 0x0602, p := fl 1 1 0 1 0 0 }) 2 [] = true := by decide
theorem test_AR19_sbcImm : runsTo [0xE9, 0x02] [] { vs with a := 0x32, p := { vs.p with d := true, c := false } }
    (fun s => { s with a := 0x29, pc := 0x0602, p := fl 0 0 1 1 0 1 }) 2 [] = true := by decide
theorem test_AR20_andImm : runsTo [0x29, 0x0F] [] { vs with a := 0xF0 }
    (fun s => { s with a := 0x00, pc := 0x0602, p := fl 0 0 0 1 1 0 }) 2 [] = true := by decide
theorem test_AR21_oraImm : runsTo [0x09, 0x80] [] { vs with a := 0x0F }
    (fun s => { s with a := 0x8F, pc := 0x0602, p := fl 1 0 0 1 0 0 }) 2 [] = true := by decide
theorem test_AR23_eorImm : runsTo [0x49, 0xFF] [] { vs with a := 0x55, p := { vs.p with v := true, c := true } }
    (fun s => { s with a := 0xAA, pc := 0x0602, p := fl 1 1 0 1 0 1 }) 2 [] = true := by decide
theorem test_AR25_cmpImm : runsTo [0xC9, 0x11] [] { vs with a := 0x10 }
    (fun s => { s with pc := 0x0602, p := fl 1 0 0 1 0 0 }) 2 [] = true := by decide
theorem test_AR26_cmpImm : runsTo [0xC9, 0x01] [] { vs with a := 0x80, p := { vs.p with v := true } }
    (fun s => { s with pc := 0x0602, p := fl 0 1 0 1 0 1 }) 2 [] = true := by decide
theorem test_AR28_cpxImm : runsTo [0xE0, 0x05] [] { vs with x := 0x06 }
    (fun s => { s with pc := 0x0602, p := fl 0 0 0 1 0 1 }) 2 [] = true := by decide
theorem test_AR29_cpyZp : runsTo [0xC4, 0x10] [(0x0010, 0x01)] { vs with y := 0x00 }
    (fun s => { s with pc := 0x0602, p := fl 1 0 0 1 0 0 }) 3 [] = true := by decide
theorem test_AR30_bitZp : runsTo [0x24, 0x10] [(0x0010, 0xC0)] { vs with a := 0x01 }
    (fun s => { s with pc := 0x0602, p := fl 1 1 0 1 1 0 }) 3 [] = true := by decide
theorem test_AR31_bitAbs : runsTo [0x2C, 0x00, 0x02] [(0x0200, 0x3F)]
    { vs with a := 0xFF, p := { vs.p with n := true, v := true } }
    (fun s => { s with pc := 0x0603, p := fl 0 0 0 1 0 0 }) 4 [] = true := by decide
theorem test_AR33_incZp : runsTo [0xE6, 0x10] [(0x0010, 0xFF)] { vs with a := 0x11, p := { vs.p with c := true } }
    (fun s => { s with pc := 0x0602, p := fl 0 0 0 1 1 1 }) 5 [(0x0010, 0x00)] = true := by decide
theorem test_AR34_incAbs : runsTo [0xEE, 0x00, 0x02] [(0x0200, 0x7F)] vs
    (fun s => { s with pc := 0x0603, p := fl 1 0 0 1 0 0 }) 6 [(0x0200, 0x80)] = true := by decide
theorem test_AR35_decZp : runsTo [0xC6, 0x10] [(0x0010, 0x00)] vs
    (fun s => { s with pc := 0x0602, p := fl 1 0 0 1 0 0 }) 5 [(0x0010, 0xFF)] = true := by decide
theorem test_AR36_decAbsx : runsTo [0xDE, 0xFF, 0x02] [(0x0300, 0x01)] { vs with x := 0x01 }
    (fun s => { s with pc := 0x0603, p := fl 0 0 0 1 1 0 }) 7 [(0x0300, 0x00)] = true := by decide
theorem test_AR37_inx : runsTo [0xE8] [] { vs with x := 0xFF }
    (fun s => { s with x := 0x00, pc := 0x0601, p := fl 0 0 0 1 1 0 }) 2 [] = true := by decide
theorem test_AR38_iny : runsTo [0xC8] [] { vs with y := 0x7F }
    (fun s => { s with y := 0x80, pc := 0x0601, p := fl 1 0 0 1 0 0 }) 2 [] = true := by decide
theorem test_AR39_dex : runsTo [0xCA] [] { vs with x := 0x00 }
    (fun s => { s with x := 0xFF, pc := 0x0601, p := fl 1 0 0 1 0 0 }) 2 [] = true := by decide
theorem test_AR40_dey : runsTo [0x88] [] { vs with y := 0x01 }
    (fun s => { s with y := 0x00, pc := 0x0601, p := fl 0 0 0 1 1 0 }) 2 [] = true := by decide
theorem test_SH2_aslAcc : runsTo [0x0A] [] { vs with a := 0x40, p := { vs.p with c := true } }
    (fun s => { s with a := 0x80, pc := 0x0601, p := fl 1 0 0 1 0 0 }) 2 [] = true := by decide
theorem test_SH3_aslZp : runsTo [0x06, 0x10] [(0x0010, 0xFF)] { vs with a := 0x77 }
    (fun s => { s with pc := 0x0602, p := fl 1 0 0 1 0 1 }) 5 [(0x0010, 0xFE)] = true := by decide
theorem test_SH4_lsrAcc : runsTo [0x4A] [] { vs with a := 0x01 }
    (fun s => { s with a := 0x00, pc := 0x0601, p := fl 0 0 0 1 1 1 }) 2 [] = true := by decide
theorem test_SH5_lsrAbs : runsTo [0x4E, 0x00, 0x02] [(0x0200, 0x80)] { vs with p := { vs.p with n := true, c := true } }
    (fun s => { s with pc := 0x0603, p := fl 0 0 0 1 0 0 }) 6 [(0x0200, 0x40)] = true := by decide
theorem test_SH6_rolAcc : runsTo [0x2A] [] { vs with a := 0x80, p := { vs.p with c := false } }
    (fun s => { s with a := 0x00, pc := 0x0601, p := fl 0 0 0 1 1 1 }) 2 [] = true := by decide
theorem test_SH8_rolZpx : runsTo [0x36, 0x0F] [(0x0010, 0x55)] { vs with x := 0x01, p := { vs.p with c := true } }
    (fun s => { s with pc := 0x0602, p := fl 1 0 0 1 0 0 }) 6 [(0x0010, 0xAB)] = true := by decide
theorem test_SH10_rorAcc : runsTo [0x6A] [] { vs with a := 0x00, p := { vs.p with c := true } }
    (fun s => { s with a := 0x80, pc := 0x0601, p := fl 1 0 0 1 0 0 }) 2 [] = true := by decide
theorem test_SH11_rorAbsx : runsTo [0x7E, 0xFF, 0x02] [(0x0300, 0x03)] { vs with x := 0x01, p := { vs.p with c := true } }
    (fun s => { s with pc := 0x0603, p := fl 1 0 0 1 0 1 }) 7 [(0x0300, 0x81)] = true := by decide
theorem test_CF3_jmpInd : runsTo [0x6C, 0xFF, 0x02] [(0x02FF, 0x34), (0x0200, 0x12), (0x0300, 0x56)] vs
    (fun s => { s with pc := 0x1234, p := fl 0 0 0 1 0 0 }) 5 [] = true := by decide
theorem test_CF4_jmpInd : runsTo [0x6C, 0xFF, 0x02] [(0x02FF, 0x34), (0x0200, 0x12), (0x0300, 0x56)]
    { vs with config := { vs.config with jmpIndPageWrap := false } }
    (fun s => { s with pc := 0x5634, p := fl 0 0 0 1 0 0 }) 5 [] = true := by decide
theorem test_CF5_jsr : runsTo [0x20, 0x10, 0x06] [] vs
    (fun s => { s with sp := 0xFD, pc := 0x0610, p := fl 0 0 0 1 0 0 })
    6 [(0x01FF, 0x06), (0x01FE, 0x02)] = true := by decide
theorem test_CF6_jsr : runsTo [0x20, 0x00, 0x07] [] { vs with sp := 0x00, pc := 0x06FE }
    (fun s => { s with sp := 0xFE, pc := 0x0700, p := fl 0 0 0 1 0 0 })
    6 [(0x0100, 0x07), (0x01FF, 0x00)] = true := by decide
theorem test_CF8_rts : runsTo [0x60] [(0x01FE, 0xFF), (0x01FF, 0xFF)] { vs with sp := 0xFD }
    (fun s => { s with sp := 0xFF, pc := 0x0000, p := fl 0 0 0 1 0 0 }) 6 [] = true := by decide
theorem test_CF9_rts : runsTo [0x60] [(0x0100, 0x34), (0x0101, 0x12)] { vs with sp := 0xFF }
    (fun s => { s with sp := 0x01, pc := 0x1235, p := fl 0 0 0 1 0 0 }) 6 [] = true := by decide
theorem test_CF16_bcc : runsTo [0x90, 0x02] [] { vs with pc := 0x06FD, p := { vs.p with c := false } }
    (fun s => { s with pc := 0x0701, p := fl 0 0 0 1 0 0 }) 4 [] = true := by decide
theorem test_CF17_bcc : runsTo [0x90, 0x00] [] { vs with pc := 0x06FE, p := { vs.p with c := false } }
    (fun s => { s with pc := 0x0700, p := fl 0 0 0 1 0 0 }) 3 [] = true := by decide
theorem test_CF18_bcs : runsTo [0xB0, 0x10] [] { vs with pc := 0xFFF8, p := { vs.p with c := true } }
    (fun s => { s with pc := 0x000A, p := fl 0 0 0 1 0 1 }) 4 [] = true := by decide
theorem test_CF14_beq : runsTo [0xF0, 0x7F] [] { vs with p := { vs.p with z := true } }
    (fun s => { s with pc := 0x0681, p := fl 0 0 0 1 1 0 }) 3 [] = true := by decide
theorem test_CF15_beq : runsTo [0xF0, 0x80] [] { vs with p := { vs.p with z := true } }
    (fun s => { s with pc := 0x0582, p := fl 0 0 0 1 1 0 }) 4 [] = true := by decide
theorem test_CF12_bne : runsTo [0xD0, 0x04] [] { vs with p := { vs.p with z := true } }
    (fun s => { s with pc := 0x0602, p := fl 0 0 0 1 1 0 }) 2 [] = true := by decide
theorem test_CF13_bne : runsTo [0xD0, 0xFE] [] { vs with p := { vs.p with z := false } }
    (fun s => { s with pc := 0x0600, p := fl 0 0 0 1 0 0 }) 3 [] = true := by decide
theorem test_CF19_bmi : runsTo [0x30, 0xFB] [] { vs with pc := 0x0001, p := { vs.p with n := true } }
    (fun s => { s with pc := 0xFFFE, p := fl 1 0 0 1 0 0 }) 4 [] = true := by decide
theorem test_CF20_bpl : runsTo [0x10, 0x05] [] { vs with p := { vs.p with n := true } }
    (fun s => { s with pc := 0x0602, p := fl 1 0 0 1 0 0 }) 2 [] = true := by decide
theorem test_CF21_bvc : runsTo [0x50, 0x05] [] { vs with p := { vs.p with v := false } }
    (fun s => { s with pc := 0x0607, p := fl 0 0 0 1 0 0 }) 3 [] = true := by decide
theorem test_CF22_bvs : runsTo [0x70, 0x05] [] { vs with p := { vs.p with v := false } }
    (fun s => { s with pc := 0x0602, p := fl 0 0 0 1 0 0 }) 2 [] = true := by decide
theorem test_FS1_clc : runsTo [0x18] [] { vs with p := { vs.p with c := true } }
    (fun s => { s with pc := 0x0601, p := fl 0 0 0 1 0 0 }) 2 [] = true := by decide
theorem test_FS2_sec : runsTo [0x38] [] { vs with p := { vs.p with c := false } }
    (fun s => { s with pc := 0x0601, p := fl 0 0 0 1 0 1 }) 2 [] = true := by decide
theorem test_FS3_cli : runsTo [0x58] [] { vs with p := { vs.p with i := true } }
    (fun s => { s with pc := 0x0601, p := fl 0 0 0 0 0 0 }) 2 [] = true := by decide
theorem test_FS4_sei : runsTo [0x78] [] { vs with p := { vs.p with i := false } }
    (fun s => { s with pc := 0x0601, p := fl 0 0 0 1 0 0 }) 2 [] = true := by decide
theorem test_FS5_cld : runsTo [0xD8] [] { vs with p := { vs.p with d := true } }
    (fun s => { s with pc := 0x0601, p := fl 0 0 0 1 0 0 }) 2 [] = true := by decide
theorem test_FS6_sed : runsTo [0xF8] [] { vs with p := { vs.p with d := false } }
    (fun s => { s with pc := 0x0601, p := fl 0 0 1 1 0 0 }) 2 [] = true := by decide
theorem test_FS7_clv : runsTo [0xB8] [] { vs with p := { vs.p with v := true } }
    (fun s => { s with pc := 0x0601, p := fl 0 0 0 1 0 0 }) 2 [] = true := by decide
theorem test_FS8_nop : runsTo [0xEA] [] { vs with a := 0x12, p := { vs.p with n := true, c := true } }
    (fun s => { s with pc := 0x0601, p := fl 1 0 0 1 0 1 }) 2 [] = true := by decide
theorem test_FS9_brk : runsTo [0x00] [(0xFFFE, 0x00), (0xFFFF, 0xC0)] { vs with p := { vs.p with i := false, c := true } }
    (fun s => { s with sp := 0xFC, pc := 0xC000, p := fl 0 0 0 1 0 1 })
    7 [(0x01FF, 0x06), (0x01FE, 0x02), (0x01FD, 0x31)] = true := by decide
theorem test_FS10_brk : runsTo [0x00] [(0xFFFE, 0x00), (0xFFFF, 0xC0)]
    { vs with pc := 0x06FF, p := { vs.p with n := true, d := true, i := true } }
    (fun s => { s with sp := 0xFC, pc := 0xC000, p := fl 1 0 1 1 0 0 })
    7 [(0x01FF, 0x07), (0x01FE, 0x01), (0x01FD, 0xBC)] = true := by decide
theorem test_FS12_rti : runsTo [0x40] [(0x01FD, 0xCF), (0x01FE, 0x34), (0x01FF, 0x12)]
    { vs with sp := 0xFC, p := { vs.p with i := true } }
    (fun s => { s with sp := 0xFF, pc := 0x1234, p := fl 1 1 1 1 1 1 }) 6 [] = true := by decide
theorem test_FS13_rti : runsTo [0x40] [(0x01FF, 0x00), (0x0100, 0x00), (0x0101, 0x80)]
    { vs with sp := 0xFE, p := { vs.p with i := true } }
    (fun s => { s with sp := 0x01, pc := 0x8000, p := fl 0 0 0 0 0 0 }) 6 [] = true := by decide

/-- TYA, of which section 2.1 has no vector (spec/40_load_store_transfer.md R150). -/
theorem test_tya : runsTo [0x98] [] { vs with y := 0x80 }
    (fun s => { s with a := 0x80, pc := 0x0601, p := fl 1 0 0 1 0 0 }) 2 [] = true := by decide

/-- AR12 under `DECIMAL_NVZ = draw`: A and C are fixed, N, V and Z are free values. -/
theorem test_AR12_draw :
    (match exec (.adcImm 0x46) { State.reset with a := 0x58, p := fl 0 0 1 1 0 1 } with
      | .next t => t.a == 0x05 && t.p.c && t.p.d && t.p.i
      | .fault _ => false
      | .refused _ => false) = true := by decide

/-- IL1 and Z3: the fault, the state it leaves, and the refusal after it. -/
theorem test_IL1_fault_then_refusal :
    let s := loadBytes [0x02] 0x0600 { vs with a := 0x12 }
    let left := { s with halted := some ⟨0x0600, 0x02⟩ }
    step s = .fault (.illegalOpcode 0x0600 0x02 left) ∧ step left = .refused (.halted ⟨0x0600, 0x02⟩) ∧
      step { left with ic := { left.ic with nmiExt := true } } = .refused (.halted ⟨0x0600, 0x02⟩) :=
  ⟨rfl, rfl, rfl⟩

/-! ### Interrupts (spec/95_test_vectors.md section 2.8, first steps) -/

/-- The start of section 2.8, with the events of the boundary. -/
def irqStart (p : Flags) (h : HostInput) : State :=
  loadBytes [0x00, 0xC0] 0xFFFE <| loadBytes [0x00, 0xD0] 0xFFFA <| loadBytes [0xEA] 0x0605
    { vs with pc := 0x0605, p := p, inputs := [h] }

/-- X1. -/
theorem test_X1_irq_entry :
    let s := irqStart (fl 1 0 0 0 0 1) { crtcEvent := true }
    step s = .next (loadImage [(0x01FF, 0x06), (0x01FE, 0x05), (0x01FD, 0xA1)]
      { s with sp := 0xFC, pc := 0xC000, p := fl 1 0 0 1 0 1, cycles := 7, inputs := []
               ic := { s.ic with crtc := true } }) := rfl

/-- X2: masked, the NOP runs and the flag stays. -/
theorem test_X2_irq_masked :
    let s := irqStart (fl 0 0 0 1 0 0) { crtcEvent := true }
    step s = .next { s with pc := 0x0606, cycles := 2, inputs := [], ic := { s.ic with crtc := true } } := rfl

/-- X3: not masked, and acknowledged by being taken. -/
theorem test_X3_nmi_entry :
    let s := irqStart (fl 0 0 0 1 1 0) { nmiEvent := true }
    step s = .next (loadImage [(0x01FF, 0x06), (0x01FE, 0x05), (0x01FD, 0x26)]
      { s with sp := 0xFC, pc := 0xD000, cycles := 7, inputs := [] }) := rfl

/-- X4: NMI before IRQ; the `crtc` flag stays. -/
theorem test_X4_nmi_has_priority :
    (match step (irqStart (fl 0 0 0 0 0 0) { crtcEvent := true, nmiEvent := true }) with
      | .next t => t.pc == 0xD000 && t.ic.crtc && !t.ic.nmiExt
      | .fault _ => false
      | .refused _ => false) = true := by decide

/-- The step record of an interrupt entry (spec/30_encoding.md R126). -/
theorem test_step_record :
    stepRecord (irqStart (fl 0 0 0 1 1 0) { nmiEvent := true }) =
      some { addr := 0x0605, mnemonic := "NMI", operands := [], a := 0, x := 0, y := 0, sp := 0xFC, pc := 0xD000,
             p := 0x36 } := by decide

/-! ### Devices (spec/95_test_vectors.md sections 2.9 to 2.12) -/

/-- The grid with the one key down. -/
def oneKey (r : Fin 7) (c : Fin 10) : KeyMatrix :=
  KeyMatrix.none.set r.val (KeyMatrix.none[r.val].set c.val true)

/-- I1 to I6. -/
theorem test_I1_to_I6 :
    let s := vs
    let t := applyInput { crtcEvent := true } s
    memRead s 0xFE4D = 0x00 ∧ memRead t 0xFE4D = 0x82 ∧ applyInput { crtcEvent := true } t = t ∧
      memWrite t 0xFE4D 0x01 = t ∧ memWrite t 0xFE4D 0x80 = t ∧ memRead (memWrite t 0xFE4D 0x02) 0xFE4D = 0x00 := by
  decide

/-- I8 to I12. -/
theorem test_I8_to_I12 :
    let s := { vs with matrix := oneKey 2 4, kbd := { vs.kbd with we := true, scanRow := 2 } }
    let t := applyInput { crtcEvent := true } s
    memRead s 0xFE4D = 0x81 ∧ memRead t 0xFE4D = 0x83 ∧ memRead (memWrite t 0xFE4D 0xFF) 0xFE4D = 0x81 ∧
      memRead (applyInput { matrix := some KeyMatrix.none } s) 0xFE4D = 0x00 ∧
      memRead (applyInput { nmiEvent := true } vs) 0xFE4D = 0x00 ∧
      pendingNmi (applyInput { nmiEvent := true } vs) = true := by decide

/-- K3 to K8: scan mode. -/
theorem test_K3_to_K8 :
    let s := memWrite { vs with matrix := oneKey 2 4 } 0xFE43 0x7F
    [0x24, 0xA4, 0x25, 0xA5, 0x2C, 0x74].map (fun v => memRead (memWrite s 0xFE4F v) 0xFE4F) =
      [0xA4, 0xA4, 0x25, 0x25, 0x2C, 0x74] := by decide

/-- K10 to K12: pass-through. -/
theorem test_K10_to_K12 :
    let s := memWrite { vs with matrix := oneKey 2 4 } 0xFE43 0xFF
    memRead (memWrite s 0xFE4F 0x24) 0xFE4F = 0x24 ∧ memRead (memWrite s 0xFE4F 0xA5) 0xFE4F = 0xA5 ∧
      memRead (memWrite (memWrite s 0xFE4F 0xA5) 0xFE43 0x00) 0xFE4F = 0xA5 := by decide

/-- K13 to K18: the control port and its direction register. -/
theorem test_K13_to_K18 :
    let on := memWrite vs 0xFE40 0x0B
    let other := memWrite on 0xFE40 0x0F
    memRead on 0xFE40 = 0x0B ∧ on.kbd.we = true ∧ memRead other 0xFE40 = 0x0F ∧ other.kbd.we = true ∧
      (memWrite other 0xFE40 0x03).kbd.we = false ∧ (memWrite vs 0xFE40 0x00).kbd.we = false ∧
      memWrite vs 0xFE42 0x0F = { vs with kbd := { vs.kbd with ddrB := 0x0F } } := by decide

/-- K19: interval, tick and row before, cycles of the step; tick and row after. -/
theorem test_K19_device_tick :
    ([(2, 0, 0, 2), (2, 0, 5, 7), (2, 1, 1, 3), (8, 6, 6, 2), (8, 0, 3, 7), (1, 0, 0, 7)].map
      fun (k : Nat × Nat × Fin 7 × Nat) =>
        let t := deviceTick k.2.2.2 { vs with
          config := { vs.config with kbdTickInterval := k.1 }
          kbd := { vs.kbd with we := true, tick := k.2.1, scanRow := k.2.2.1 } }
        (t.kbd.tick, t.kbd.scanRow)) =
      [(0, 1), (1, 1), (0, 3), (0, 0), (7, 3), (0, 0)] := by decide

/-- Scenario 1.3, second step: the write of the enable pattern and the scan that finds the key, all in one step. -/
theorem test_S13_key_raises_the_line :
    (match step (loadBytes [0x8D, 0x40, 0xFE] 0x0600 { vs with a := 0x0B, matrix := oneKey 2 4 }) with
      | .next t => keyboardLine t && t.kbd.we && t.kbd.scanRow == 2 && t.kbd.tick == 0 && t.kbd.ddrA == 0x00
      | .fault _ => false
      | .refused _ => false) = true := by decide

/-- V1 to V7. -/
theorem test_V1_to_V7 :
    let s := memWrite (memWrite vs 0xFE00 0x01) 0xFE01 0x50
    let t := memWrite (memWrite s 0xFE00 0xE5) 0xFE01 0xAA
    let u := memWrite (memWrite t 0xFE00 0x11) 0xFE01 0x77
    let w := memWrite (memWrite u 0xFE00 0x12) 0xFE01 0x99
    memRead s 0xFE01 = 0x50 ∧ memRead s 0xFE00 = 0x01 ∧ memRead t 0xFE00 = 0x05 ∧ t.crtc.reg[5] = 0xAA ∧
      t.crtc.reg[1] = 0x50 ∧ u.crtc.reg[17] = 0x77 ∧ memRead w 0xFE01 = 0x00 ∧ w.crtc.reg = u.crtc.reg ∧
      memRead (memWrite w 0xFE00 0x1F) 0xFE01 = 0x00 := by decide

/-- B1 to B4. -/
theorem test_B1_to_B4 :
    memRead (memWrite vs 0xFE10 0x5A) 0xFE10 = 0x5A ∧ memRead (memWrite vs 0xFF00 0x5A) 0xFF00 = 0x00 ∧
      memRead (memWrite vs 0x8000 0x11) 0x8000 = 0x00 ∧ memRead (memWrite vs 0x7FFF 0x11) 0x7FFF = 0x11 := by decide

/-! ### Reset and the host (spec/95_test_vectors.md section 2.13) -/

/-- Z1 and Z2: PC from the reset vector, low byte first; nothing pushed. -/
theorem test_Z1_Z2_reset_vector :
    (hostReset ResetDraws.named (loadBytes [0x00, 0xC0] 0xFFFC vs)).pc = 0xC000 ∧
      (hostReset ResetDraws.named (loadBytes [0x34, 0x12] 0xFFFC vs)).pc = 0x1234 ∧
      (hostReset ResetDraws.named (loadBytes [0x34, 0x12] 0xFFFC vs)).mem = [(0xFFFC, 0x34), (0xFFFD, 0x12)] := by
  decide

/-- Z4: a reset in the middle of a run keeps RAM and clears the devices. -/
theorem test_Z4_reset_in_a_run :
    let s := loadImage [(0x01F1, 0x77), (0x0200, 0x05)] { vs with
      sp := 0xF0
      p := fl 0 0 0 0 0 0
      kbd := { vs.kbd with we := true, scanRow := 4 }
      crtc := { vs.crtc with reg := vs.crtc.reg.set 1 0x50 } }
    let t := hostReset ResetDraws.named s
    t.kbd = Keyboard.reset ∧ t.crtc = Crtc.reset ∧ t.p.i = true ∧ memRead t 0x01F1 = 0x77 ∧ memRead t 0x0200 = 0x05 := by
  decide

/-- The state after reset is what `reset()` leaves of the machine built with the defaults. -/
theorem test_reset_is_hostReset : hostReset ResetDraws.named (blank Config.default) = State.reset := by decide

/-- `withFetchWord`: the next step after reset runs the instruction, also with a host event coming. -/
theorem test_withFetchWord :
    (match step (State.reset.withFetchWord 16 0x05A9) with
      | .next t => t.a == 0x05 && t.pc == 0x0002
      | .fault _ => false
      | .refused _ => false) = true ∧
    (match step ({ State.reset with inputs := [{ nmiEvent := true }] }.withFetchWord 16 0x05A9) with
      | .next t => t.a == 0x05
      | .fault _ => false
      | .refused _ => false) = true := by decide

/-! ### Witnesses: for each statement with hypotheses, inputs that meet them -/

/-- A machine about to run a NOP. -/
def nopState : State := { vs with mem := [(0x0600, 0xEA)] }

/-- A machine with every kind of extra source, all flags set. -/
def xs : State :=
  { vs with
    config := { Config.default with extraSources :=
      [⟨"via", .irq, .edge, some 2⟩, ⟨"acia", .irq, .level, some 6⟩, ⟨"disc", .nmi, .edge, none⟩,
       ⟨"tape", .nmi, .level, none⟩] }
    ic := { crtc := true, nmiExt := true, extra := [true, true, true, true] } }

theorem nopState_inv : nopState.Inv where
  config := by decide
  mem := by decide
  cells := by
    intro a h
    by_cases ha : a = 0x0600
    · subst ha
      exact absurd h (by decide)
    · have : ¬ 0x0600 = a.toNat := fun e => ha (BitVec.eq_of_toNat_eq e.symm)
      simp [nopState, Memory.read, this]
  tick := by decide
  extra := by decide

theorem vs_stackIsRam : StackIsRam vs := by unfold StackIsRam; decide

theorem witness_HostReset :
    xs.config.extraSources[0]? = some ⟨"via", .irq, .edge, some 2⟩ ∧
      (hostReset ResetDraws.named xs).ic.extra = [false, true, false, true] := by decide

theorem witness_Build :
    Config.mapWf [] = false ∧ Config.mapWf Config.defaultMap = true ∧
      Config.paramsWf { Config.default with kbdTickInterval := 0 } = false ∧ Config.default.wf = true ∧
      xs.config.wf = true := by decide

theorem witness_WellFormedMap : Config.mapWf Config.defaultMap = true := by decide

theorem witness_EveryStep : nopState.Inv ∧ ∃ t, step nopState = .next t := ⟨nopState_inv, _, rfl⟩

theorem witness_NoStepChangesRom :
    (∃ t, step nopState = .next t) ∧ busTarget nopState 0x8000 = .rom ∧ busTarget nopState 0xFFFF = .rom :=
  ⟨⟨_, rfl⟩, by decide, by decide⟩

theorem witness_RamAndRom :
    nopState.mem.wf = true ∧
      [0x0000, 0x7FFF, 0xFE02, 0xFEFF].all (fun a => busTarget nopState a == .ram) = true ∧
      [0x8000, 0xFDFF, 0xFF00, 0xFFFF].all (fun a => busTarget nopState a == .rom) = true ∧
      (0xFFFF : Addr) ≠ 0x7FFF ∧ isMemory nopState 0xFFFF = true := by decide

theorem witness_CanonicalMemories :
    Memory.wf [(0x0000, 0x01), (0xFFFF, 0xFF)] = true ∧ Memory.wf [(0x0000, 0x00)] = false ∧
      ∀ a, a < 65536 →
        Memory.read [(0x0000, 0x01), (0xFFFF, 0xFF)] a = Memory.read [(0x0000, 0x01), (0xFFFF, 0xFF)] a :=
  ⟨by decide, by decide, fun _ _ => rfl⟩

theorem witness_registers :
    busTarget vs 0xFE4F = .kbdPort ∧ busTarget vs 0xFE43 = .kbdDdr ∧ busTarget vs 0xFE42 = .kbdCtrlDdr ∧
      busTarget vs 0xFE40 = .kbdCtrl ∧ busTarget vs 0xFE4D = .icAck ∧ busTarget vs 0xFE00 = .crtcAddr ∧
      busTarget vs 0xFE01 = .crtcData := by decide

theorem witness_KeyboardPatterns :
    (0x0B : Byte) = vs.config.kbdEnablePattern ∧ (0x03 : Byte) ≠ vs.config.kbdEnablePattern ∧
      (0x03 : Byte) = vs.config.kbdDisablePattern ∧ (0x0F : Byte) ≠ vs.config.kbdEnablePattern ∧
      (0x0F : Byte) ≠ vs.config.kbdDisablePattern := by decide

theorem witness_KeyboardGrid :
    keyDown (oneKey 6 9) 6 9 = true ∧ keyDown (oneKey 6 9) 7 9 = false ∧ keyDown (oneKey 6 9) 6 10 = false ∧
      rowHasKey (oneKey 6 9) 6 = true ∧ vs.kbd.ddrA ≠ 0x7F ∧
      (memWrite vs 0xFE43 0x7F).kbd.ddrA = 0x7F := by decide

theorem witness_KeyboardEnable : vs.kbd.we = false ∧ (memWrite vs 0xFE40 0x0B).kbd.we = true := by decide

/-- A machine whose scan must find the one key, in row 6: a tick every cycle, BRK at PC. -/
def heldStart : State :=
  { vs with
    config := { Config.default with kbdTickInterval := 1 }
    matrix := oneKey 6 9
    kbd := { vs.kbd with we := true } }

/-- Is write-enable set after `k` steps? -/
def enabledAfter (k : Nat) : Bool :=
  match Sys2Proof.core.run k heldStart with
  | .next u => (State.kbd u).we
  | .fault _ => false
  | .refused _ => false

theorem witness_HeldKey :
    0 < heldStart.config.kbdTickInterval ∧ heldStart.inputs = [] ∧ (∃ r : Fin 7, rowHasKey heldStart.matrix r = true) ∧
      (∀ k u, k ≤ 4 → Sys2Proof.core.run k heldStart = .next u → State.kbd u = { State.kbd u with we := true }) ∧
      7 * heldStart.config.kbdTickInterval ≤ 2 * 4 ∧ ∃ t, Sys2Proof.core.run 4 heldStart = .next t := by
  refine ⟨by decide, rfl, ⟨6, by decide⟩, ?_, by decide, _, rfl⟩
  intro k u hk h
  have all : ∀ k ≤ 4, enabledAfter k = true := by decide
  have hwe : (State.kbd u).we = true := by simpa [enabledAfter, h] using all k hk
  rw [← hwe]

theorem witness_Acknowledge :
    busTarget xs 0xFE4D = .icAck ∧ xs.config.extraSources[0]? = some ⟨"via", .irq, .edge, some 2⟩ ∧
      xs.ic.extra[0]? = some true ∧ (0x04 : Byte).getLsbD 2 = true ∧
      (memWrite xs 0xFE4D 0x04).ic.extra = [false, true, true, true] ∧
      (memWrite xs 0xFE4D 0xFB).ic.extra = [true, true, true, true] := by decide

theorem witness_StatusRead :
    (memRead xs 0xFE4D).getLsbD 2 = true ∧ (memRead xs 0xFE4D).getLsbD 6 = true ∧ (memRead xs 0xFE4D).getLsbD 3 = false ∧
      pendingIrq xs = true ∧ pendingIrq vs = false := by decide

theorem witness_Crtc :
    (memWrite vs 0xFE00 0x11).crtc.addr.toNat < 18 ∧ 18 ≤ (memWrite vs 0xFE00 0x12).crtc.addr.toNat ∧
      busTarget (memWrite vs 0xFE00 0x12) 0xFE01 = .crtcData := by decide

theorem witness_Decode :
    Instr.nop.WellFormed ∧ decode [0xA9, 0x05, 0x8D] = .ok (.ldaImm 0x05, [0x8D]) := ⟨trivial, rfl⟩

theorem witness_StepRuns :
    nopState.halted = none ∧ pendingNmi (deliverInputs nopState) = false ∧
      pendingIrq (deliverInputs nopState) = false ∧
      (∀ (k : Nat) (h : k < (encode .nop).length),
        memRead (deliverInputs nopState) (nopState.pc + BitVec.ofNat 16 k) = (encode .nop)[k]) := by
  refine ⟨by decide, by decide, by decide, ?_⟩
  intro k h
  have : k = 0 := by have : (encode .nop).length = 1 := rfl; omega
  subst this
  rfl

/-- The other way its hypotheses can be met: an IRQ pending while I is 1. -/
theorem witness_StepRuns_masked :
    let s := irqStart (fl 0 0 0 1 0 0) { crtcEvent := true }
    s.halted = none ∧ pendingNmi (deliverInputs s) = false ∧ pendingIrq (deliverInputs s) = true ∧ s.p.i = true ∧
      memRead (deliverInputs s) s.pc = 0xEA := by decide

theorem witness_IllegalOpcode :
    let s := loadBytes [0xFF] 0x0600 vs
    s.halted = none ∧ pendingNmi (deliverInputs s) = false ∧ pendingIrq (deliverInputs s) = false ∧
      memRead (deliverInputs s) s.pc ∈ illegalOpcodes ∧ (∃ f, step s = .fault f) :=
  ⟨by decide, by decide, by decide, by decide, _, rfl⟩

theorem witness_Halted :
    ({ vs with halted := some ⟨0x0600, 0x02⟩ } : State).halted = some ⟨0x0600, 0x02⟩ ∧
      ∃ left, step (loadBytes [0x02] 0x0600 vs) = .fault (.illegalOpcode 0x0600 0x02 left) := ⟨rfl, _, rfl⟩

theorem witness_OnlyIllegal : nopState.halted = none ∧ ∃ t, exec .nop nopState = .next t := ⟨rfl, _, rfl⟩

theorem witness_Interrupts :
    let n := irqStart (fl 0 0 0 1 0 0) { nmiEvent := true }
    let i := irqStart (fl 0 0 0 0 0 0) { crtcEvent := true }
    n.halted = none ∧ pendingNmi (deliverInputs n) = true ∧ i.halted = none ∧ pendingNmi (deliverInputs i) = false ∧
      pendingIrq (deliverInputs i) = true ∧ i.p.i = false := by decide

/-- The case of InterruptsAreTakenByPriority in which the IRQ waits: I is 1. -/
theorem witness_Interrupts_masked :
    let m := irqStart (fl 0 0 0 1 0 0) { crtcEvent := true }
    m.halted = none ∧ pendingNmi (deliverInputs m) = false ∧ pendingIrq (deliverInputs m) = true ∧ m.p.i = true := by
  decide

/-- An interrupt at a boundary with an undefined opcode at PC: the entry is taken, no fault. -/
theorem witness_OnlyIllegal_interrupt :
    let n := loadBytes [0x02] 0x0605 (irqStart (fl 0 0 0 1 0 0) { nmiEvent := true })
    n.halted = none ∧ pendingNmi (deliverInputs n) = true ∧ memRead (deliverInputs n) n.pc ∈ illegalOpcodes ∧
      ∃ t, step n = .next t := ⟨by decide, by decide, by decide, _, rfl⟩

theorem witness_NmiAcknowledge :
    xs.config.extraSources[3]? = some ⟨"tape", .nmi, .level, none⟩ ∧ xs.ic.extra[3]? = some true ∧
      (nmiAcknowledge xs).ic.extra = [true, true, false, true] := by decide

theorem witness_OneNmi :
    let s := { xs with config := { xs.config with extraSources := [⟨"disc", .nmi, .edge, none⟩] } }
    s.halted = none ∧ pendingNmi (deliverInputs s) = true ∧ (∃ t, step s = .next t) ∧
      ∀ e ∈ s.config.extraSources, e.cls = .nmi → e.trigger = .edge := ⟨rfl, rfl, ⟨_, rfl⟩, by decide⟩

/-- After the entry a handler has pushed a byte of its own and pulled it: the three stacked bytes stand, the byte below them
is another. -/
theorem witness_RtiUndoes :
    let t := interruptEntry .nmi vs
    let u := pulled (push 0x55 t)
    vs.mem.wf = true ∧ StackIsRam vs ∧ u.sp = t.sp ∧
      (∀ k ∈ [vs.sp, vs.sp - 1, vs.sp - 2], memRead u (stackAddr k) = memRead t (stackAddr k)) ∧
      memRead u (stackAddr (vs.sp - 3)) ≠ memRead t (stackAddr (vs.sp - 3)) :=
  ⟨rfl, vs_stackIsRam, rfl, by decide, by decide⟩

/-- The subroutine has pushed a byte of its own and pulled it. -/
theorem witness_RtsUndoes :
    vs.mem.wf = true ∧ StackIsRam vs ∧
      ∃ t, exec (.jsr 0x1234) vs = .next t ∧
        (pulled (push 0x55 t)).sp = t.sp ∧
        (∀ k ∈ [vs.sp, vs.sp - 1], memRead (pulled (push 0x55 t)) (stackAddr k) = memRead t (stackAddr k)) ∧
        memRead (pulled (push 0x55 t)) (stackAddr (vs.sp - 2)) ≠ memRead t (stackAddr (vs.sp - 2)) :=
  ⟨rfl, vs_stackIsRam, _, rfl, rfl, by decide, by decide⟩

theorem witness_PullAfterPush :
    vs.mem.wf = true ∧ StackIsRam vs ∧ (0x0000 : Addr).toNat ≠ 0x0100 + vs.sp.toNat ∧ isMemory vs 0x0000 = true :=
  ⟨rfl, vs_stackIsRam, by decide, by decide⟩

/-- The form lists of the statements on loads, arithmetic, logic, compares and BIT are not empty. -/
theorem witness_ReadForms (s : State) :
    (.ldaImm 0x05, 0x05) ∈ formsLda s 0x05 0 ∧ (.ldxImm 0x05, 0x05) ∈ formsLdx s 0x05 0 ∧
      (.ldyImm 0x05, 0x05) ∈ formsLdy s 0x05 0 ∧ (.adcImm 0x05, 0x05) ∈ formsAdc s 0x05 0 ∧
      (.sbcImm 0x05, 0x05) ∈ formsSbc s 0x05 0 ∧ (.andImm 0x05, 0x05) ∈ formsAnd s 0x05 0 ∧
      (.oraImm 0x05, 0x05) ∈ formsOra s 0x05 0 ∧ (.eorImm 0x05, 0x05) ∈ formsEor s 0x05 0 ∧
      (.cmpImm 0x05, 0x05) ∈ formsCmp s 0x05 0 ∧ (.cpxImm 0x05, 0x05) ∈ formsCpx s 0x05 0 ∧
      (.cpyImm 0x05, 0x05) ∈ formsCpy s 0x05 0 ∧
      (.bitZp 0x05, readOperand s (.zp 0x05)) ∈ formsBit s 0x05 0 := by
  simp [formsLda, formsLdx, formsLdy, formsAdc, formsSbc, formsAnd, formsOra, formsEor, formsCmp, formsCpx, formsCpy,
    formsBit]

/-- The three cases of ADC and SBC. -/
theorem witness_AdcSbc_cases :
    vs.p.d = false ∧ vs.config.decimalNvz = .nmos ∧ State.reset.config.decimalNvz = .draw ∧
      ({ vs with p := fl 0 0 1 1 0 0 } : State).p.d = true := by decide

theorem witness_StoreForms :
    (.staZp 0x05, .zp 0x05) ∈ formsSta 0x05 0 ∧ (.stxZp 0x05, .zp 0x05) ∈ formsStx 0x05 0 ∧
      (.styZp 0x05, .zp 0x05) ∈ formsSty 0x05 0 ∧ (.incZp 0x05, .zp 0x05) ∈ formsInc 0x05 0 ∧
      (.decZp 0x05, .zp 0x05) ∈ formsDec 0x05 0 ∧ (.aslZp 0x05, .zp 0x05) ∈ formsAsl 0x05 0 ∧
      (.lsrZp 0x05, .zp 0x05) ∈ formsLsr 0x05 0 ∧ (.rolZp 0x05, .zp 0x05) ∈ formsRol 0x05 0 ∧
      (.rorZp 0x05, .zp 0x05) ∈ formsRor 0x05 0 ∧ busTarget vs 0x8000 = .rom := by decide

theorem witness_MemoryForms :
    (∃ t, exec (.incZp 0x05) vs = .next t) ∧ isMemory vs (ea vs (.zp 0x05)) = true ∧
      (0x0006 : Addr) ≠ ea vs (.zp 0x05) ∧ isMemory vs 0x0006 = true := ⟨⟨_, rfl⟩, by decide, by decide, by decide⟩

theorem witness_Bcd : ValidBcd 0x99 ∧ ValidBcd 0x00 := by unfold ValidBcd; decide

theorem witness_Jumps : (0x02FE : Addr).toNat % 256 ≠ 255 ∧ (0x02FF : Addr).toNat % 256 = 255 := by decide

theorem witness_Branches : (.bcc 0x80, true) ∈ branchTable (fl 0 0 0 0 0 0) 0x80 := by decide

theorem witness_StackForms :
    (.brk, 3) ∈ ([(.pha, 1), (.php, 1), (.jsr 0x1234, 2), (.brk, 3)] : List (Instr × Nat)) ∧
      (∃ t, exec .brk vs = .next t) ∧ (∃ t, exec .pha vs = .next t) ∧ Instr.pha ≠ .brk ∧ StackIsRam vs ∧
      (∀ k, k < 3 → (0x01FC : Addr) ≠ 0x0100 + zext (vs.sp - BitVec.ofNat 8 k)) ∧ isMemory vs 0x01FC = true :=
  ⟨by decide, ⟨_, rfl⟩, ⟨_, rfl⟩, by decide, vs_stackIsRam, by decide, by decide⟩

theorem witness_HostInputs :
    vs.inputs = [] ∧ (irqStart (fl 0 0 0 0 0 0) { extra := [true] }).inputs = { extra := [true] } :: [] ∧
      xs.config.extraSources[1]? = some ⟨"acia", .irq, .level, some 6⟩ ∧ xs.ic.extra[1]? = some true ∧
      (applyInput { extra := [false, false] } xs).ic.extra = [true, false, true, true] := by decide

theorem witness_Frames :
    (∃ t, exec .nop vs = .next t) ∧ mnemonicOf .nop = "NOP" ∧ storesToMemory .nop = false ∧
      (∃ t, exec (.aslZp 0x05) vs = .next t) ∧ storesToMemory (.aslZp 0x05) = true :=
  ⟨⟨_, rfl⟩, by decide, by decide, ⟨_, rfl⟩, by decide⟩

theorem witness_CycleCounts :
    (∃ row ∈ fixedCycleTable 0x05 0x1234, Instr.nop ∈ row.2 ∧ row.1 = 2) ∧
      (4, .ldaAbsx 0x12FF, 0x12FF, vs.x) ∈ indexedCycleTable vs 0x05 0x12FF ∧
      (.bne 0xFE, true) ∈ branchTable vs.p 0xFE ∧ ∃ t, step nopState = .next t :=
  ⟨⟨_, List.mem_cons_self .., by decide, rfl⟩, by decide, by decide, _, rfl⟩

end Sys2Proof.Tests
end

section
/-! SUPPORT. The invariant of the machine is kept by every part of a step: the boundary, a bus write (hence, by
`BusProperty`, every instruction and every exception entry), the acknowledge of an NMI and the end of the step. -/

namespace Sys2Proof.Machine

/-- What the invariant looks at: configuration, memory, the tick and the number of extra flags. -/
theorem State.Inv.of_unchanged {s t : State} (h : s.Inv) (hc : t.config = s.config) (hm : t.mem = s.mem)
    (ht : t.kbd.tick < s.config.kbdTickInterval) (he : t.ic.extra.length = s.ic.extra.length) : t.Inv where
  config := by rw [hc]; exact h.config
  mem := by rw [hm]; exact h.mem
  cells a ha := by
    rw [isMemory_congr hc] at ha
    rw [hm]
    exact h.cells a ha
  tick := by rw [hc]; exact ht
  extra := by rw [he, hc]; exact h.extra

theorem State.Inv.of_sameBus {s t : State} (h : s.Inv) (hs : SameBus s t) : t.Inv :=
  h.of_unchanged hs.config hs.mem (by rw [hs.kbd]; exact h.tick) (by rw [hs.ic])

theorem isMemory_of_ram {s : State} {a : Addr} (h : busTarget s a = .ram) : isMemory s a = true := by
  simp [isMemory, h]

/-- A bus write makes no cell for a register's address: the one cell it can change is RAM's (R62, R67). -/
theorem memWrite_read_of_not_isMemory {s : State} {a : Addr} (b : Addr) (v : Byte) (ha : isMemory s a = false) :
    (memWrite s b v).mem.read a.toNat = s.mem.read a.toNat := by
  rw [memWrite_mem]
  split
  case isTrue hb =>
    have hba : b ≠ a := by
      rintro rfl
      simp [isMemory_of_ram hb] at ha
    exact Memory.read_write_ne _ v fun h => hba (BitVec.eq_of_toNat_eq h)
  case isFalse => rfl

theorem State.Inv.of_memWrite {s : State} (b : Addr) (v : Byte) (h : s.Inv) : (memWrite s b v).Inv where
  config := by simpa using h.config
  mem := memWrite_wf b v h.mem
  cells a ha := by
    rw [isMemory_congr (memWrite_config s b v)] at ha
    rw [memWrite_read_of_not_isMemory b v ha]
    exact h.cells a ha
  tick := by simpa using h.tick
  extra := by simpa using h.extra

theorem inv_busProperty : BusProperty State.Inv where
  same _ _ hs h := h.of_sameBus hs
  write _ := State.Inv.of_memWrite

theorem deliverInputs_nil {s : State} (h : s.inputs = []) : deliverInputs s = s := by
  simp [deliverInputs, h]

theorem deliverInputs_cons {s : State} {h : HostInput} {rest : List HostInput} (hs : s.inputs = h :: rest) :
    deliverInputs s = { applyInput h s with inputs := rest } := by
  simp [deliverInputs, hs]

@[simp] theorem deliverInputs_extra_length (s : State) :
    (deliverInputs s).ic.extra.length = s.ic.extra.length := by
  cases hs : s.inputs with
  | nil => rw [deliverInputs_nil hs]
  | cons h rest =>
    rw [deliverInputs_cons hs]
    exact deliverExtra_length _ _ _

theorem State.Inv.of_deliverInputs {s : State} (h : s.Inv) : (deliverInputs s).Inv :=
  h.of_unchanged (by simp) (by simp) (by simpa using h.tick) (by simp)

theorem State.Inv.of_nmiAcknowledge {s : State} (h : s.Inv) : (nmiAcknowledge s).Inv :=
  h.of_unchanged rfl rfl h.tick (clearExtra_length _ _ _)

/-- The tick of the scan stays below its interval (R36, R300). -/
theorem deviceTick_tick_lt {s : State} (n : Nat) (h : s.kbd.tick < s.config.kbdTickInterval) :
    (deviceTick n s).kbd.tick < s.config.kbdTickInterval := by
  unfold deviceTick
  split
  · exact Nat.mod_lt _ (Nat.zero_lt_of_lt h)
  · exact h

theorem State.Inv.of_finishStep {s : State} (n : Nat) (h : s.Inv) : (finishStep n s).Inv :=
  h.of_unchanged (by simp) (by simp) (deviceTick_tick_lt n h.tick) (by simp)

theorem State.Inv.of_interruptEntry {s : State} (kind : IntClass) (h : s.Inv) : (interruptEntry kind s).Inv :=
  match kind with
  | .nmi => (inv_busProperty.of_takeException s.pc false Config.vecNmi h).of_nmiAcknowledge
  | .irq => inv_busProperty.of_takeException s.pc false Config.vecIrq h

theorem State.Inv.of_advance {s : State} (i : Instr) (h : s.Inv) : (advance i s).Inv :=
  h.of_unchanged rfl rfl h.tick rfl

/-- Settles O5: a step is the boundary, then an interrupt entry or one instruction, then the end of the step, and each
part keeps the invariant. -/
theorem everyStepKeepsTheInvariant : Obligations.EveryStepKeepsTheInvariant := by
  intro s t h hstep
  have hb : (deliverInputs s).Inv := h.of_deliverInputs
  obtain ⟨-, ⟨kind, rfl, -⟩ | ⟨i, u, -, -, hexec, rfl⟩⟩ := step_cases hstep
  · exact (hb.of_interruptEntry kind).of_finishStep _
  · exact (inv_busProperty.of_exec hexec (hb.of_advance i)).of_finishStep _

theorem configDefault_wf : Config.default.wf = true := by decide

/-- Settles O1: the default parameters are well-formed, and there is no cell and no extra source yet. -/
theorem resetStateMeetsInvariant : Obligations.ResetStateMeetsInvariant where
  config := configDefault_wf
  mem := Memory.wf_nil
  cells _ _ := rfl
  tick := by decide
  extra := rfl

/-- What the boundary does to the flag of one extra source (R281, R282). -/
theorem deliverExtra_getElem? : ∀ {es : List ExtraSource} {fs : List Bool} (bs : List Bool) {k : Nat}
    {e : ExtraSource} {f : Bool}, es[k]? = some e → fs[k]? = some f →
    (deliverExtra es fs bs)[k]? = some ((bs[k]?).elim f fun b => if e.trigger = .edge then f || b else b)
  | [], _, _, _, _, _, he, _ => by simp at he
  | _ :: _, [], _, _, _, _, _, hf => by simp at hf
  | _ :: _, _ :: _, [], _, _, _, _, hf => by simpa [deliverExtra] using hf
  | _ :: _, _ :: _, _ :: _, 0, _, _, he, hf => by simp_all [deliverExtra]
  | _ :: _, _ :: _, _ :: bs, k + 1, _, _, he, hf => by
    simpa [deliverExtra] using deliverExtra_getElem? bs (k := k) (by simpa using he) (by simpa using hf)

/-- Settles O56, by the two cases of the list of coming inputs. -/
theorem hostInputsTakeEffectAtTheBoundary : Obligations.HostInputsTakeEffectAtTheBoundary := by
  intro s
  refine ⟨deliverInputs_nil, fun h rest hs => ?_⟩
  rw [deliverInputs_cons hs]
  refine ⟨rfl, rfl, rfl, fun k e f he hf => ?_, rfl⟩
  have hextra := deliverExtra_getElem? h.extra he hf
  simp only [applyInput, hextra]
  cases h.extra[k]? <;> rfl

end Sys2Proof.Machine
end

section
/-! SUPPORT. Which parts of the state an instruction writes, said once for all 151 rows: `Footprint`, one case per set of
written fields, with the mnemonics that write it. What a flag's or a register's writers are is read off it. -/

namespace Sys2Proof.Machine

/-- ADC writes A, C, N, V, Z and the draw counter at most (R174). -/
theorem addWithCarry_eq (m : Byte) (s : State) :
    addWithCarry m s = { s with
      a := (addWithCarry m s).a
      p := { s.p with
        c := (addWithCarry m s).p.c
        n := (addWithCarry m s).p.n
        v := (addWithCarry m s).p.v
        z := (addWithCarry m s).p.z }
      freeCount := (addWithCarry m s).freeCount } := by
  simp only [addWithCarry]
  split
  · split <;> rfl
  · rfl

/-- SBC writes A, C, N, V, Z and the draw counter at most (R175). -/
theorem subtractWithBorrow_eq (m : Byte) (s : State) :
    subtractWithBorrow m s = { s with
      a := (subtractWithBorrow m s).a
      p := { s.p with
        c := (subtractWithBorrow m s).p.c
        n := (subtractWithBorrow m s).p.n
        v := (subtractWithBorrow m s).p.v
        z := (subtractWithBorrow m s).p.z }
      freeCount := (subtractWithBorrow m s).freeCount } := by
  simp only [subtractWithBorrow]
  split
  · split <;> rfl
  · rfl

/-- A branch writes PC at most (R214). -/
theorem branch_eq (cond : BranchCond) (rel : Byte) (s : State) :
    branch cond rel s = { s with pc := (branch cond rel s).pc } := by
  unfold branch
  split <;> rfl

/-- `Footprint i s t`: `t` is `s` but for the fields that an instruction with the mnemonic of `i` writes, whatever it
writes there (`exec_footprint`). `hm` lists the mnemonics of the case; `hs` says that a case with a bus write has the
storing forms only, and a case that writes A none of them (R118, R200). -/
inductive Footprint (i : Instr) (s : State) : State → Prop
  | toA (v : Byte)
      (hm : mnemonicOf i ∈ ["LDA", "TXA", "TYA", "AND", "ORA", "EOR"] := by simp [mnemonicOf, Instr.opcode])
      (hs : storesToMemory i = false := by simp [storesToMemory, Instr.opcode]) :
      Footprint i s (setNZ v { s with a := v })
  | toX (v : Byte)
      (hm : mnemonicOf i ∈ ["LDX", "TAX", "TSX", "INX", "DEX"] := by simp [mnemonicOf, Instr.opcode]) :
      Footprint i s (setNZ v { s with x := v })
  | toY (v : Byte) (hm : mnemonicOf i ∈ ["LDY", "TAY", "INY", "DEY"] := by simp [mnemonicOf, Instr.opcode]) :
      Footprint i s (setNZ v { s with y := v })
  | toSP (v : Byte) (hm : mnemonicOf i ∈ ["TXS"] := by simp [mnemonicOf, Instr.opcode]) :
      Footprint i s { s with sp := v }
  | arith (r : Byte) (c n v z : Bool) (k : Nat)
      (hm : mnemonicOf i ∈ ["ADC", "SBC"] := by simp [mnemonicOf, Instr.opcode])
      (hs : storesToMemory i = false := by simp [storesToMemory, Instr.opcode]) :
      Footprint i s { s with a := r, p := { s.p with c := c, n := n, v := v, z := z }, freeCount := k }
  | compare (r m : Byte) (hm : mnemonicOf i ∈ ["CMP", "CPX", "CPY"] := by simp [mnemonicOf, Instr.opcode]) :
      Footprint i s { s with p := s.p.compare r m }
  | bit (n v z : Bool) (hm : mnemonicOf i ∈ ["BIT"] := by simp [mnemonicOf, Instr.opcode]) :
      Footprint i s { s with p := { s.p with n := n, v := v, z := z } }
  | shiftA (k : Byte × Bool)
      (hm : mnemonicOf i ∈ ["ASL", "LSR", "ROL", "ROR"] := by simp [mnemonicOf, Instr.opcode])
      (hs : storesToMemory i = false := by simp [storesToMemory, Instr.opcode]) :
      Footprint i s (setShiftFlags k { s with a := k.1 })
  | shiftAt (b : Addr) (k : Byte × Bool)
      (hm : mnemonicOf i ∈ ["ASL", "LSR", "ROL", "ROR"] := by simp [mnemonicOf, Instr.opcode])
      (hs : storesToMemory i = true := by simp [storesToMemory, Instr.opcode]) :
      Footprint i s (setShiftFlags k (memWrite s b k.1))
  | store (b : Addr) (v : Byte)
      (hm : mnemonicOf i ∈ ["STA", "STX", "STY"] := by simp [mnemonicOf, Instr.opcode])
      (hs : storesToMemory i = true := by simp [storesToMemory, Instr.opcode]) :
      Footprint i s (memWrite s b v)
  | incDec (b : Addr) (v : Byte) (hm : mnemonicOf i ∈ ["INC", "DEC"] := by simp [mnemonicOf, Instr.opcode])
      (hs : storesToMemory i = true := by simp [storesToMemory, Instr.opcode]) :
      Footprint i s (setNZ v (memWrite s b v))
  | push (v : Byte) (hm : mnemonicOf i ∈ ["PHA", "PHP"] := by simp [mnemonicOf, Instr.opcode])
      (hs : storesToMemory i = true := by simp [storesToMemory, Instr.opcode]) :
      Footprint i s (push v s)
  | pullA (v : Byte) (hm : mnemonicOf i ∈ ["PLA"] := by simp [mnemonicOf, Instr.opcode])
      (hs : storesToMemory i = false := by simp [storesToMemory, Instr.opcode]) :
      Footprint i s (setNZ v { pulled s with a := v })
  | pullP (p : Flags) (hm : mnemonicOf i ∈ ["PLP"] := by simp [mnemonicOf, Instr.opcode]) :
      Footprint i s { pulled s with p := p }
  | jump (a : Addr)
      (hm : mnemonicOf i ∈ ["JMP", "BCC", "BCS", "BEQ", "BNE", "BMI", "BPL", "BVC", "BVS"] := by
        simp [mnemonicOf, Instr.opcode]) :
      Footprint i s { s with pc := a }
  | call (ret a : Addr) (hm : mnemonicOf i ∈ ["JSR"] := by simp [mnemonicOf, Instr.opcode])
      (hs : storesToMemory i = true := by simp [storesToMemory, Instr.opcode]) :
      Footprint i s { pushWord ret s with pc := a }
  | returnFromCall (v : Byte) (a : Addr) (hm : mnemonicOf i ∈ ["RTS"] := by simp [mnemonicOf, Instr.opcode]) :
      Footprint i s { s with sp := v, pc := a }
  | exception (ret : Addr) (b : Bool) (vector : Addr)
      (hm : mnemonicOf i ∈ ["BRK"] := by simp [mnemonicOf, Instr.opcode])
      (hs : storesToMemory i = true := by simp [storesToMemory, Instr.opcode]) :
      Footprint i s (takeException ret b vector s)
  | returnFromException (v : Byte) (p : Flags) (a : Addr)
      (hm : mnemonicOf i ∈ ["RTI"] := by simp [mnemonicOf, Instr.opcode]) :
      Footprint i s { s with sp := v, p := p, pc := a }
  | flagC (b : Bool) (hm : mnemonicOf i ∈ ["CLC", "SEC"] := by simp [mnemonicOf, Instr.opcode]) :
      Footprint i s { s with p := { s.p with c := b } }
  | flagI (b : Bool) (hm : mnemonicOf i ∈ ["CLI", "SEI"] := by simp [mnemonicOf, Instr.opcode]) :
      Footprint i s { s with p := { s.p with i := b } }
  | flagD (b : Bool) (hm : mnemonicOf i ∈ ["CLD", "SED"] := by simp [mnemonicOf, Instr.opcode]) :
      Footprint i s { s with p := { s.p with d := b } }
  | flagV (b : Bool) (hm : mnemonicOf i ∈ ["CLV"] := by simp [mnemonicOf, Instr.opcode]) :
      Footprint i s { s with p := { s.p with v := b } }
  | nothing (hm : mnemonicOf i ∈ ["NOP"] := by simp [mnemonicOf, Instr.opcode]) : Footprint i s s

/-- Every instruction completes within its footprint. -/
theorem exec_footprint (i : Instr) (s : State) : ∃ t, exec i s = .next t ∧ Footprint i s t := by
  cases i with
  | ldaImm | ldaZp | ldaZpx | ldaAbs | ldaAbsx | ldaAbsy | ldaIndx | ldaIndy | txa | tya
  | andImm | andZp | andZpx | andAbs | andAbsx | andAbsy | andIndx | andIndy
  | oraImm | oraZp | oraZpx | oraAbs | oraAbsx | oraAbsy | oraIndx | oraIndy
  | eorImm | eorZp | eorZpx | eorAbs | eorAbsx | eorAbsy | eorIndx | eorIndy => exact ⟨_, rfl, .toA _⟩
  | ldxImm | ldxZp | ldxZpy | ldxAbs | ldxAbsy | tax | tsx | inx | dex => exact ⟨_, rfl, .toX _⟩
  | ldyImm | ldyZp | ldyZpx | ldyAbs | ldyAbsx | tay | iny | dey => exact ⟨_, rfl, .toY _⟩
  | txs => exact ⟨_, rfl, .toSP _⟩
  | adcImm | adcZp | adcZpx | adcAbs | adcAbsx | adcAbsy | adcIndx | adcIndy =>
    exact ⟨_, congrArg Host.Outcome.next (addWithCarry_eq _ s), .arith _ _ _ _ _ _⟩
  | sbcImm | sbcZp | sbcZpx | sbcAbs | sbcAbsx | sbcAbsy | sbcIndx | sbcIndy =>
    exact ⟨_, congrArg Host.Outcome.next (subtractWithBorrow_eq _ s), .arith _ _ _ _ _ _⟩
  | cmpImm | cmpZp | cmpZpx | cmpAbs | cmpAbsx | cmpAbsy | cmpIndx | cmpIndy | cpxImm | cpxZp | cpxAbs
  | cpyImm | cpyZp | cpyAbs => exact ⟨_, rfl, .compare _ _⟩
  | bitZp | bitAbs => exact ⟨_, rfl, .bit _ _ _⟩
  | aslAcc | lsrAcc | rolAcc | rorAcc => exact ⟨_, rfl, .shiftA _⟩
  | aslZp | aslZpx | aslAbs | aslAbsx | lsrZp | lsrZpx | lsrAbs | lsrAbsx
  | rolZp | rolZpx | rolAbs | rolAbsx | rorZp | rorZpx | rorAbs | rorAbsx => exact ⟨_, rfl, .shiftAt _ _⟩
  | staZp | staZpx | staAbs | staAbsx | staAbsy | staIndx | staIndy | stxZp | stxZpy | stxAbs
  | styZp | styZpx | styAbs => exact ⟨_, rfl, .store _ _⟩
  | incZp | incZpx | incAbs | incAbsx | decZp | decZpx | decAbs | decAbsx => exact ⟨_, rfl, .incDec _ _⟩
  | pha | php => exact ⟨_, rfl, .push _⟩
  | pla => exact ⟨_, rfl, .pullA _⟩
  | plp => exact ⟨_, rfl, .pullP _⟩
  | jmpAbs | jmpInd => exact ⟨_, rfl, .jump _⟩
  | bcc | bcs | beq | bne | bmi | bpl | bvc | bvs =>
    exact ⟨_, congrArg Host.Outcome.next (branch_eq _ _ s), .jump _⟩
  | jsr => exact ⟨_, rfl, .call _ _⟩
  | rts => exact ⟨_, rfl, .returnFromCall _ _⟩
  | brk => exact ⟨_, rfl, .exception _ _ _⟩
  | rti => exact ⟨_, rfl, .returnFromException _ _ _⟩
  | clc | sec => exact ⟨_, rfl, .flagC _⟩
  | cli | sei => exact ⟨_, rfl, .flagI _⟩
  | cld | sed => exact ⟨_, rfl, .flagD _⟩
  | clv => exact ⟨_, rfl, .flagV _⟩
  | nop => exact ⟨_, rfl, .nothing⟩

theorem footprint_of_exec {i : Instr} {s t : State} (h : exec i s = .next t) : Footprint i s t := by
  obtain ⟨u, hu, hf⟩ := exec_footprint i s
  rw [hu] at h
  cases h
  exact hf

/-- Nothing is asked of a mnemonic that is one of the listed writers. -/
theorem of_listed {m : String} {l writers : List String} {P : Prop} (hm : m ∈ l) (hl : l ⊆ writers) :
    m ∉ writers → P :=
  fun h => absurd (hl hm) h

/-- Nothing is asked of a listed writer that is no storing form. -/
theorem of_listed_of_not_stores {i : Instr} {l writers : List String} {P : Prop} (hm : mnemonicOf i ∈ l)
    (hs : storesToMemory i = false) (hl : l ⊆ writers) : mnemonicOf i ∉ writers ∨ storesToMemory i = true → P
  | .inl h => absurd (hl hm) h
  | .inr h => by simp [hs] at h

/-- Settles O57: in each case of the footprint, a flag stays or the case's mnemonics are among its listed writers. -/
theorem flagsAreWrittenOnlyByTheListedInstructions : Obligations.FlagsAreWrittenOnlyByTheListedInstructions := by
  intro i s t h
  cases footprint_of_exec h with
  | toA _ hm | toX _ hm | toY _ hm | incDec _ _ hm | pullA _ hm =>
    exact ⟨by simp, of_listed hm (by decide), by simp, by simp, by simp⟩
  | arith _ _ _ _ _ _ hm =>
    exact ⟨of_listed hm (by decide), of_listed hm (by decide), by simp, by simp, of_listed hm (by decide)⟩
  | compare _ _ hm | shiftA _ hm | shiftAt _ _ hm =>
    exact ⟨of_listed hm (by decide), of_listed hm (by decide), by simp, by simp, by simp⟩
  | bit _ _ _ hm => exact ⟨by simp, of_listed hm (by decide), by simp, by simp, of_listed hm (by decide)⟩
  | pullP _ hm | returnFromException _ _ _ hm =>
    exact ⟨of_listed hm (by decide), of_listed hm (by decide), of_listed hm (by decide), of_listed hm (by decide),
      of_listed hm (by decide)⟩
  | flagC _ hm => exact ⟨of_listed hm (by decide), by simp, by simp, by simp, by simp⟩
  | flagI _ hm | exception _ _ _ hm => exact ⟨by simp, by simp, of_listed hm (by decide), by simp, by simp⟩
  | flagD _ hm => exact ⟨by simp, by simp, by simp, of_listed hm (by decide), by simp⟩
  | flagV _ hm => exact ⟨by simp, by simp, by simp, by simp, of_listed hm (by decide)⟩
  | toSP | store | push | jump | call | returnFromCall | nothing => simp [pushWord]

/-- Settles O58: in each case of the footprint, a register stays or the case's mnemonics are among its listed writers. -/
theorem registersAreWrittenOnlyByTheListedInstructions :
    Obligations.RegistersAreWrittenOnlyByTheListedInstructions := by
  intro i s t h
  cases footprint_of_exec h with
  | toA _ hm hs | arith _ _ _ _ _ _ hm hs | shiftA _ hm hs =>
    exact ⟨of_listed_of_not_stores hm hs (by decide), by simp, by simp, by simp, by simp⟩
  | pullA _ hm hs =>
    exact ⟨of_listed_of_not_stores hm hs (by decide), by simp, by simp, of_listed hm (by decide), by simp⟩
  | toX _ hm => exact ⟨by simp, of_listed hm (by decide), by simp, by simp, by simp⟩
  | toY _ hm => exact ⟨by simp, by simp, of_listed hm (by decide), by simp, by simp⟩
  | toSP _ hm | push _ hm | pullP _ hm => exact ⟨by simp, by simp, by simp, of_listed hm (by decide), by simp⟩
  | jump _ hm => exact ⟨by simp, by simp, by simp, by simp, of_listed hm (by decide)⟩
  | call _ _ hm | returnFromCall _ _ hm | exception _ _ _ hm | returnFromException _ _ _ hm =>
    exact ⟨by simp [pushWord], by simp [pushWord], by simp [pushWord], of_listed hm (by decide),
      of_listed hm (by decide)⟩
  | compare | bit | shiftAt | store | incDec | flagC | flagI | flagD | flagV | nothing => simp

end Sys2Proof.Machine
end

section
/-! SUPPORT. Bytes of memory (spec/20_memory.md): what a bus write does to the cells of RAM and ROM, that ROM stays along a
step, that a canonical memory is determined by its reads, and the byte order of words. -/

namespace Sys2Proof.Machine

/-! ### Bytes of RAM and ROM -/

theorem isMemory_of_rom {s : State} {a : Addr} (h : busTarget s a = .rom) : isMemory s a = true := by
  simp [isMemory, h]

/-- An address of RAM or ROM reads its cell (R67, R68). -/
theorem memRead_of_isMemory {s : State} {a : Addr} (h : isMemory s a = true) : memRead s a = s.mem.read a.toNat := by
  cases ht : busTarget s a <;> simp [isMemory, memRead, ht] at h ⊢

theorem memWrite_of_ram {s : State} {a : Addr} (v : Byte) (h : busTarget s a = .ram) :
    memWrite s a v = { s with mem := s.mem.write a.toNat v } := by
  simp [memWrite, h]

/-- A write to ROM is ignored (R68). -/
theorem memWrite_of_rom {s : State} {a : Addr} (v : Byte) (h : busTarget s a = .rom) : memWrite s a v = s := by
  simp [memWrite, h]

/-- A bus write changes no cell but that of its address. -/
theorem memWrite_read_of_ne {s : State} {a b : Addr} (v : Byte) (h : a ≠ b) :
    (memWrite s a v).mem.read b.toNat = s.mem.read b.toNat := by
  rw [memWrite_mem]
  split
  · exact Memory.read_write_ne _ v fun heq => h (BitVec.eq_of_toNat_eq heq)
  · rfl

theorem memWrite_read_of_rom {s : State} {a : Addr} (b : Addr) (v : Byte) (h : busTarget s a = .rom) :
    (memWrite s b v).mem.read a.toNat = s.mem.read a.toNat := by
  by_cases hb : b = a
  · rw [hb, memWrite_of_rom v h]
  · exact memWrite_read_of_ne v hb

theorem busTarget_congr {s t : State} (h : t.config = s.config) (a : Addr) : busTarget t a = busTarget s a := by
  simp only [busTarget, h]

/-- Settles O7, from the laws of memory cells: in a canonical memory the cell written reads the byte written, and no
other cell changes. -/
theorem ramAndRomBytesFollowTheirRules : Obligations.RamAndRomBytesFollowTheirRules := by
  intro s a v hwf
  refine ⟨fun hram => ⟨?written, fun b hba hb => ?others, ?onlyMem⟩, memWrite_of_rom v⟩
  case written =>
    have hmem : isMemory (memWrite s a v) a = true := by
      rw [isMemory_congr (memWrite_config s a v), isMemory_of_ram hram]
    rw [memRead_of_isMemory hmem, memWrite_of_ram v hram]
    exact Memory.read_write_eq v hwf
  case others =>
    have hmem : isMemory (memWrite s a v) b = true := by rw [isMemory_congr (memWrite_config s a v), hb]
    rw [memRead_of_isMemory hmem, memRead_of_isMemory hb, memWrite_read_of_ne v hba.symm]
  case onlyMem => rw [memWrite_of_ram v hram]

/-! ### ROM along a step -/

/-- `t` has the configuration of `s`, hence its bus map, and the bytes of its ROM. -/
structure SameRom (s t : State) : Prop where
  config : t.config = s.config
  cells : ∀ a : Addr, busTarget s a = .rom → t.mem.read a.toNat = s.mem.read a.toNat

theorem SameRom.of_unchanged {s t u : State} (h : SameRom s t) (hc : u.config = t.config) (hm : u.mem = t.mem) :
    SameRom s u where
  config := hc.trans h.config
  cells a ha := by rw [hm, h.cells a ha]

theorem sameRom_busProperty (s : State) : BusProperty (SameRom s) where
  same _ _ hs h := h.of_unchanged hs.config hs.mem
  write t b v h :=
    { config := by rw [memWrite_config, h.config]
      cells := fun a ha => by
        have hrom : busTarget t a = .rom := by rw [busTarget_congr h.config, ha]
        rw [memWrite_read_of_rom b v hrom, h.cells a ha] }

theorem SameRom.of_interruptEntry {s t : State} (kind : IntClass) (h : SameRom s t) :
    SameRom s (interruptEntry kind t) :=
  match kind with
  | .nmi => ((sameRom_busProperty s).of_takeException t.pc false Config.vecNmi h).of_unchanged rfl rfl
  | .irq => (sameRom_busProperty s).of_takeException t.pc false Config.vecIrq h

theorem step_sameRom {s t : State} (h : step s = .next t) : SameRom s t := by
  have hb : SameRom s (deliverInputs s) := ⟨by simp, fun _ _ => by simp⟩
  obtain ⟨-, ⟨kind, rfl, -⟩ | ⟨i, u, -, -, hexec, rfl⟩⟩ := step_cases h
  · exact (hb.of_interruptEntry kind).of_unchanged (by simp) (by simp)
  · have hadv : SameRom s (advance i (deliverInputs s)) := hb.of_unchanged rfl rfl
    exact ((sameRom_busProperty s).of_exec hexec hadv).of_unchanged (by simp) (by simp)

/-- Settles O6: the boundary, an interrupt entry or an instruction, and the end of the step each keep configuration and
ROM, because a bus write does. -/
theorem noStepChangesRom : Obligations.NoStepChangesRom := by
  intro s t h
  obtain ⟨hconfig, hcells⟩ := step_sameRom h
  refine ⟨hconfig, fun a ha => ?_⟩
  have hrom : busTarget t a = .rom := by rw [busTarget_congr hconfig, ha]
  refine ⟨hrom, ?_⟩
  rw [memRead_of_isMemory (isMemory_of_rom hrom), memRead_of_isMemory (isMemory_of_rom ha), hcells a ha]

/-! ### Canonical memories -/

namespace Memory

theorem wfFrom_cons {lo k : Nat} {w : Byte} {m : Memory} :
    wfFrom lo ((k, w) :: m) = true ↔ lo ≤ k ∧ k < 65536 ∧ w ≠ unlisted ∧ wfFrom (k + 1) m = true := by
  simp [wfFrom, and_assoc]

theorem read_cons_self (k : Nat) (w : Byte) (m : Memory) : read ((k, w) :: m) k = w := by
  simp [read]

theorem read_cons_ne {k a : Nat} (w : Byte) (m : Memory) (h : k ≠ a) : read ((k, w) :: m) a = m.read a := by
  simp [read, h]

/-- The first cell of a canonical memory shows: a memory whose cells all lie above it reads otherwise there. -/
theorem exists_read_ne_of_cons {lo k : Nat} {w : Byte} {m n : Memory} (hm : wfFrom lo ((k, w) :: m) = true)
    (hn : wfFrom (k + 1) n = true) : ∃ a < 65536, read ((k, w) :: m) a ≠ n.read a := by
  obtain ⟨-, hk, hw, -⟩ := wfFrom_cons.mp hm
  refine ⟨k, hk, ?_⟩
  rwa [read_cons_self, read_below hn k.lt_succ_self]

/-- Canonical memories with one first cell that read alike have tails that read alike. -/
theorem read_tail_eq {k : Nat} {w : Byte} {m n : Memory} (hm : wfFrom (k + 1) m = true)
    (hn : wfFrom (k + 1) n = true) {a : Nat} (h : read ((k, w) :: m) a = read ((k, w) :: n) a) :
    m.read a = n.read a := by
  by_cases ha : k = a
  · rw [read_below hm (by omega), read_below hn (by omega)]
  · rwa [read_cons_ne w m ha, read_cons_ne w n ha] at h

theorem eq_of_read_eq_from : ∀ {m n : Memory} {lo : Nat}, wfFrom lo m = true → wfFrom lo n = true →
    (∀ a < 65536, m.read a = n.read a) → m = n
  | [], [], _, _, _, _ => rfl
  | [], _ :: _, _, _, hn, h => by
    obtain ⟨a, ha, hne⟩ := exists_read_ne_of_cons (n := []) hn rfl
    exact absurd (h a ha).symm hne
  | _ :: _, [], _, hm, _, h => by
    obtain ⟨a, ha, hne⟩ := exists_read_ne_of_cons (n := []) hm rfl
    exact absurd (h a ha) hne
  | (k, w) :: m, (l, u) :: n, _, hm, hn, h => by
    obtain ⟨-, hk, hw, hm'⟩ := wfFrom_cons.mp hm
    obtain ⟨-, hl, hu, hn'⟩ := wfFrom_cons.mp hn
    rcases lt_trichotomy k l with hkl | rfl | hlk
    · obtain ⟨a, ha, hne⟩ := exists_read_ne_of_cons hm (wfFrom_cons.mpr ⟨hkl, hl, hu, hn'⟩)
      exact absurd (h a ha) hne
    · have hwu : w = u := by simpa only [read_cons_self] using h k hk
      subst hwu
      rw [eq_of_read_eq_from hm' hn' fun a ha => read_tail_eq hm' hn' (h a ha)]
    · obtain ⟨a, ha, hne⟩ := exists_read_ne_of_cons hn (wfFrom_cons.mpr ⟨hlk, hk, hw, hm'⟩)
      exact absurd (h a ha).symm hne

end Memory

/-- Settles O8, by induction on both lists: the lower of two first cells would show in one memory only. -/
theorem canonicalMemoriesThatReadAlikeAreEqual : Obligations.CanonicalMemoriesThatReadAlikeAreEqual :=
  fun _ _ => Memory.eq_of_read_eq_from

/-! ### Words -/

theorem wordOf_toNat (hi lo : Byte) : (wordOf hi lo).toNat = hi.toNat * 256 + lo.toNat := by
  rw [wordOf, BitVec.toNat_append, ← Nat.shiftLeft_add_eq_or_of_lt lo.isLt, Nat.shiftLeft_eq]

theorem zext_eq_ofNat (b : Byte) : zext b = BitVec.ofNat 16 b.toNat := by
  simp [zext]

/-- Settles O9: each word is its two bytes, and the addresses are sums modulo 65536 and 256 (R71). -/
theorem wordsAreReadLowByteFirst : Obligations.WordsAreReadLowByteFirst := by
  intro s a zp
  have hnext : a + 1 = BitVec.ofNat 16 ((a.toNat + 1) % 65536) := by bv_omega
  have hzp : (zp + 1).toNat = (zp.toNat + 1) % 256 := BitVec.toNat_add zp 1
  rw [memRead16, memRead16ZP, wordOf_toNat, wordOf_toNat, hnext, zext_eq_ofNat, zext_eq_ofNat, hzp]
  exact ⟨rfl, rfl⟩

end Sys2Proof.Machine
end

section
/-! SUPPORT. Building a machine (spec/20_memory.md R64, spec/70_reset_and_hazards.md R340, R346): the invariant holds of the
blank machine, and loading an image and the reset keep it. -/

namespace Sys2Proof.Machine

/-- The host loads a byte into a cell of RAM or ROM, and nothing elsewhere (R346). -/
theorem loadByte_eq (s : State) (b : Addr) (v : Byte) :
    loadByte s b v = if isMemory s b = true then { s with mem := s.mem.write b.toNat v } else s := by
  cases h : busTarget s b <;> simp [loadByte, isMemory, h]

@[simp] theorem loadByte_config (s : State) (b : Addr) (v : Byte) : (loadByte s b v).config = s.config := by
  rw [loadByte_eq]
  split <;> rfl

@[simp] theorem loadImage_config : ∀ (image : List Host.Cell) (s : State), (loadImage image s).config = s.config
  | [], _ => rfl
  | _ :: image, s => by rw [loadImage, loadImage_config image, loadByte_config]

@[simp] theorem hostReset_config (w : ResetDraws) (s : State) : (hostReset w s).config = s.config := rfl

/-- Loading a byte makes no cell for an address of a register. -/
theorem loadByte_read_of_not_isMemory {s : State} {a : Addr} (b : Addr) (v : Byte) (ha : isMemory s a = false) :
    (loadByte s b v).mem.read a.toNat = s.mem.read a.toNat := by
  rw [loadByte_eq]
  split
  case isTrue hb =>
    refine Memory.read_write_ne _ v fun hba => ?_
    simp [BitVec.eq_of_toNat_eq hba, ha] at hb
  case isFalse => rfl

theorem State.Inv.of_loadByte {s : State} (b : Addr) (v : Byte) (h : s.Inv) : (loadByte s b v).Inv where
  config := by simpa using h.config
  mem := loadByte_wf b v h.mem
  cells a ha := by
    rw [isMemory_congr (loadByte_config s b v)] at ha
    rw [loadByte_read_of_not_isMemory b v ha, h.cells a ha]
  tick := by
    rw [loadByte_eq]
    split <;> exact h.tick
  extra := by
    rw [loadByte_eq]
    split <;> exact h.extra

theorem State.Inv.of_loadImage : ∀ (image : List Host.Cell) {s : State}, s.Inv → (loadImage image s).Inv
  | [], _, h => h
  | (a, v) :: image, _, h => State.Inv.of_loadImage image (h.of_loadByte (BitVec.ofNat 16 a) v)

theorem State.Inv.of_hostReset {s : State} (w : ResetDraws) (h : s.Inv) : (hostReset w s).Inv :=
  h.of_unchanged rfl rfl (Nat.zero_lt_of_lt h.tick) (clearExtra_length _ _ _)

theorem kbdTickInterval_pos_of_wf {c : Config} (h : c.wf = true) : 0 < c.kbdTickInterval := by
  simp only [Config.wf, Config.paramsWf, Bool.and_eq_true, decide_eq_true_eq] at h
  obtain ⟨-, ⟨⟨-, hpos⟩, -⟩, -⟩ := h
  exact hpos

theorem blank_inv {c : Config} (h : c.wf = true) : (blank c).Inv where
  config := h
  mem := Memory.wf_nil
  cells _ _ := rfl
  tick := kbdTickInterval_pos_of_wf h
  extra := List.length_map _

/-- Settles O3: the two refusals are the two tests of `build`, and the blank machine, the loads and the reset each meet
the invariant. -/
theorem buildRefusesIllFormedConfigurations : Obligations.BuildRefusesIllFormedConfigurations := by
  intro c image w
  refine ⟨fun hmap => by simp [build, hmap], fun hmap hparams => by simp [build, hmap, hparams], fun hwf => ?_⟩
  have hbuild : build c image w = .ok (hostReset w (loadImage image (blank c))) := by
    obtain ⟨hmap, hparams⟩ : Config.mapWf c.busMap = true ∧ c.paramsWf = true := by simpa [Config.wf] using hwf
    simp [build, hmap, hparams]
  refine ⟨_, hbuild, ((blank_inv hwf).of_loadImage image).of_hostReset w, ?_⟩
  rw [hostReset_config, loadImage_config]
  rfl

end Sys2Proof.Machine
end

section
/-! SUPPORT. Bus maps (spec/20_memory.md R63, R64): the ranges of a well-formed map share no address, and counting their
addresses shows that they hold all 65536. -/

namespace Sys2Proof

theorem MapEntry.contains_iff {e : MapEntry} {a : Addr} :
    e.contains a = true ↔ e.lo.toNat ≤ a.toNat ∧ a.toNat ≤ e.hi.toNat := by
  simp [MapEntry.contains]

theorem MapEntry.disjoint_iff {e f : MapEntry} :
    e.disjoint f = true ↔ e.hi.toNat < f.lo.toNat ∨ f.hi.toNat < e.lo.toNat := by
  simp [MapEntry.disjoint]

theorem MapEntry.not_contains_of_disjoint {e f : MapEntry} {a : Addr} (h : e.disjoint f = true)
    (he : e.contains a = true) : f.contains a = false := by
  by_contra hf
  rw [Bool.not_eq_false, contains_iff] at hf
  rw [contains_iff] at he
  rw [disjoint_iff] at h
  omega

theorem MapEntry.disjoint_comm (e f : MapEntry) : e.disjoint f = f.disjoint e := Bool.or_comm _ _

theorem Config.noOverlap_cons {e : MapEntry} {m : List MapEntry} :
    Config.noOverlap (e :: m) = true ↔ (∀ f ∈ m, e.disjoint f = true) ∧ Config.noOverlap m = true := by
  simp [Config.noOverlap]

/-- Of ranges that do not overlap, only one holds an address. -/
theorem filter_contains_of_mem : ∀ {m : List MapEntry} {e : MapEntry} {a : Addr}, Config.noOverlap m = true → e ∈ m →
    e.contains a = true → m.filter (fun f => f.contains a) = [e]
  | f :: m, e, a, hm, hmem, he => by
    obtain ⟨hf, hm'⟩ := Config.noOverlap_cons.mp hm
    rcases List.mem_cons.mp hmem with rfl | hmem'
    · have htail : m.filter (fun g => g.contains a) = [] := List.filter_eq_nil_iff.mpr fun g hg => by
        simp [MapEntry.not_contains_of_disjoint (hf g hg) he]
      rw [List.filter_cons, if_pos he, htail]
    · have hef : e.disjoint f = true := MapEntry.disjoint_comm f e ▸ hf e hmem'
      have hfa : f.contains a = false := MapEntry.not_contains_of_disjoint hef he
      rw [List.filter_cons, hfa, if_neg Bool.false_ne_true, filter_contains_of_mem hm' hmem' he]

/-- The addresses that the entries of a map hold, as numbers. -/
def addrsOf (m : List MapEntry) : Finset Nat :=
  m.foldr (fun e rest => Finset.Icc e.lo.toNat e.hi.toNat ∪ rest) ∅

theorem mem_addrsOf : ∀ {m : List MapEntry} {k : Nat},
    k ∈ addrsOf m ↔ ∃ e ∈ m, e.lo.toNat ≤ k ∧ k ≤ e.hi.toNat
  | [], _ => by simp [addrsOf]
  | e :: m, k => by
    have ih := mem_addrsOf (m := m) (k := k)
    simp only [addrsOf, List.foldr_cons, Finset.mem_union, Finset.mem_Icc, List.exists_mem_cons_iff] at ih ⊢
    rw [ih]

/-- Ranges that do not overlap hold as many addresses as their sizes add up to. -/
theorem card_addrsOf : ∀ {m : List MapEntry}, Config.noOverlap m = true →
    (addrsOf m).card = (m.map MapEntry.size).sum
  | [], _ => rfl
  | e :: m, h => by
    obtain ⟨he, hm⟩ := Config.noOverlap_cons.mp h
    have hdisj : Disjoint (Finset.Icc e.lo.toNat e.hi.toNat) (addrsOf m) := by
      rw [Finset.disjoint_left]
      intro k hk hkm
      obtain ⟨f, hf, hkf⟩ := mem_addrsOf.mp hkm
      have hef := MapEntry.disjoint_iff.mp (he f hf)
      rw [Finset.mem_Icc] at hk
      omega
    calc (addrsOf (e :: m)).card
        = (Finset.Icc e.lo.toNat e.hi.toNat).card + (addrsOf m).card := Finset.card_union_of_disjoint hdisj
      _ = ((e :: m).map MapEntry.size).sum := by
        rw [Nat.card_Icc, card_addrsOf hm, List.map_cons, List.sum_cons, MapEntry.size]

theorem addrsOf_subset_range (m : List MapEntry) : addrsOf m ⊆ Finset.range 65536 := by
  intro k hk
  obtain ⟨e, -, -, hhi⟩ := mem_addrsOf.mp hk
  exact Finset.mem_range.mpr (Nat.lt_of_le_of_lt hhi e.hi.isLt)

/-- Ranges that do not overlap and hold 65536 addresses together hold every address. -/
theorem exists_contains_of_total {m : List MapEntry} (hover : Config.noOverlap m = true)
    (htotal : Config.total m = true) (a : Addr) : ∃ e ∈ m, e.contains a = true := by
  have hsum : (m.map MapEntry.size).sum = 65536 := by simpa [Config.total] using htotal
  have hcard : (Finset.range 65536).card ≤ (addrsOf m).card := by
    rw [Finset.card_range, card_addrsOf hover, hsum]
  have hall : addrsOf m = Finset.range 65536 := Finset.eq_of_subset_of_card_le (addrsOf_subset_range m) hcard
  have ha : a.toNat ∈ addrsOf m := by
    rw [hall]
    exact Finset.mem_range.mpr a.isLt
  obtain ⟨e, he, hea⟩ := mem_addrsOf.mp ha
  exact ⟨e, he, MapEntry.contains_iff.mpr hea⟩

end Sys2Proof

namespace Sys2Proof.Machine

/-- The bus uses the first entry that holds the address. -/
theorem targetOf_of_filter : ∀ {m : List MapEntry} {e : MapEntry} {a : Addr} {l : List MapEntry},
    m.filter (fun f => f.contains a) = e :: l → targetOf m a = e.target
  | [], _, _, _, h => by simp at h
  | f :: m, e, a, l, h => by
    cases hf : f.contains a with
    | true =>
      rw [List.filter_cons, if_pos hf] at h
      obtain ⟨rfl, -⟩ := List.cons.inj h
      simp [targetOf, hf]
    | false =>
      rw [List.filter_cons, hf, if_neg Bool.false_ne_true] at h
      simp [targetOf, hf, targetOf_of_filter h]

/-- Settles O4: counting the addresses of the ranges gives an entry that holds the address, and the ranges are disjoint,
so it is the only one (R64). -/
theorem wellFormedMapResolvesEachAddressOnce : Obligations.WellFormedMapResolvesEachAddressOnce := by
  intro m hm a
  simp only [Config.mapWf, Bool.and_eq_true] at hm
  obtain ⟨⟨⟨-, hover⟩, htotal⟩, -⟩ := hm
  obtain ⟨e, hmem, he⟩ := exists_contains_of_total hover htotal a
  have hfilter := filter_contains_of_mem hover hmem he
  exact ⟨e, hfilter, targetOf_of_filter hfilter⟩

end Sys2Proof.Machine
end

section
/-! SUPPORT. What an instruction leaves alone outside the CPU, read off its footprint. -/

namespace Sys2Proof.Machine

/-- Settles O59: in each case of the footprint nothing outside the CPU is written but by a bus write, and a case with a
bus write has storing forms only. -/
theorem instructionsLeaveTheOutsideAlone : Obligations.InstructionsLeaveTheOutsideAlone := by
  intro i s t h
  cases footprint_of_exec h with
  | shiftAt _ _ _ hs | store _ _ _ hs | incDec _ _ _ hs | push _ _ hs | call _ _ _ hs => simp [pushWord, hs]
  | exception _ _ _ _ hs => simp [takeException, pushWord, hs]
  | toA | toX | toY | toSP | arith | compare | bit | shiftA | pullA | pullP | jump | returnFromCall
  | returnFromException | flagC | flagI | flagD | flagV | nothing =>
    exact ⟨rfl, rfl, rfl, rfl, rfl, rfl, rfl, rfl, fun _ => ⟨rfl, rfl, rfl, rfl, fun _ => rfl⟩⟩

end Sys2Proof.Machine
end

section
/-! SUPPORT. The round trip of the encoder and the decoder (spec/30_encoding.md R102, R103, R120): each instruction
has one row of the opcode map, which reads it back from its operand bytes, and each row makes only instructions it is
the row of. -/

namespace Sys2Proof

/-- Every instruction has its row in the map, under its opcode byte, which asks for as many bytes as the instruction
is encoded in and reads it back from its operand bytes. The cases are the formats of R102: no operand byte, one, and
the two of a word. -/
theorem exists_row (i : Instr) : ∃ r, findRow i.opcode = some r ∧ r.mode.length = i.length ∧
    ∀ rest, r.read (i.operands ++ rest) = .ok (i, rest) := by
  cases i with
  | tax | tay | txa | tya | tsx | txs | pha | php | pla | plp | inx | iny | dex | dey
  | aslAcc | lsrAcc | rolAcc | rorAcc | rts | clc | sec | cli | sei | cld | sed | clv | nop | brk | rti => exact ⟨_, rfl, rfl, fun _ => rfl⟩
  | ldaImm | ldaZp | ldaZpx | ldaIndx | ldaIndy | ldxImm | ldxZp | ldxZpy | ldyImm | ldyZp | ldyZpx
  | staZp | staZpx | staIndx | staIndy | stxZp | stxZpy | styZp | styZpx
  | adcImm | adcZp | adcZpx | adcIndx | adcIndy | sbcImm | sbcZp | sbcZpx | sbcIndx | sbcIndy
  | andImm | andZp | andZpx | andIndx | andIndy | oraImm | oraZp | oraZpx | oraIndx | oraIndy
  | eorImm | eorZp | eorZpx | eorIndx | eorIndy | cmpImm | cmpZp | cmpZpx | cmpIndx | cmpIndy
  | cpxImm | cpxZp | cpyImm | cpyZp | bitZp | incZp | incZpx | decZp | decZpx
  | aslZp | aslZpx | lsrZp | lsrZpx | rolZp | rolZpx | rorZp | rorZpx
  | bcc | bcs | beq | bne | bmi | bpl | bvc | bvs =>
    simp [Instr.opcode, Instr.operands, Instr.length, encode, OpRow.read, Mode.length]
  | ldaAbs a | ldaAbsx a | ldaAbsy a | ldxAbs a | ldxAbsy a | ldyAbs a | ldyAbsx a | staAbs a | staAbsx a | staAbsy a
  | stxAbs a | styAbs a | adcAbs a | adcAbsx a | adcAbsy a | sbcAbs a | sbcAbsx a | sbcAbsy a
  | andAbs a | andAbsx a | andAbsy a | oraAbs a | oraAbsx a | oraAbsy a | eorAbs a | eorAbsx a | eorAbsy a
  | cmpAbs a | cmpAbsx a | cmpAbsy a | cpxAbs a | cpyAbs a | bitAbs a | incAbs a | incAbsx a | decAbs a | decAbsx a
  | aslAbs a | aslAbsx a | lsrAbs a | lsrAbsx a | rolAbs a | rolAbsx a | rorAbs a | rorAbsx a
  | jmpAbs a | jmpInd a | jsr a =>
    simp [Instr.opcode, Instr.operands, Instr.length, encode, OpRow.read, Mode.length, wordOf_hi_lo a]

theorem decode_cons_of_findRow {op : Byte} {r : OpRow} (bs : List Byte) (h : findRow op = some r) :
    decode (op :: bs) = r.read bs := by
  simp [decode, h]

theorem decode_cons_of_no_row {op : Byte} (bs : List Byte) (h : findRow op = none) :
    decode (op :: bs) = .error (.illegalOpcode op) := by
  simp [decode, h]

theorem decode_encode (i : Instr) (rest : List Byte) : decode (encode i ++ rest) = .ok (i, rest) := by
  obtain ⟨r, hfound, -, hread⟩ := exists_row i
  rw [encode, List.cons_append, decode_cons_of_findRow _ hfound, hread]

theorem lengthOf_opcode (i : Instr) : lengthOf i.opcode = i.length := by
  obtain ⟨r, hfound, hlength, -⟩ := exists_row i
  simp [lengthOf, hfound, hlength]

/-- Settles O18: the row of an instruction stands under its opcode byte and reads it back. -/
theorem decodeOfEncodeIsTheInstruction : Obligations.DecodeOfEncodeIsTheInstruction :=
  fun i rest _ => decode_encode i rest

/-- Settles O21: each word is an encoding, and a decoded encoding is its instruction. -/
theorem sampleWordsDecode : Obligations.SampleWordsDecode :=
  ⟨decode_encode (.ldaImm 0x05) [], decode_encode (.staAbs 0x0200) [], decode_encode (.bne 0xF9) [],
    decode_encode (.jmpInd 0x02FF) [], decode_encode (.ldaIndx 0x20) [], decode_encode (.ldaIndy 0x20) [],
    decode_encode (.ldxZpy 0x10) [], decode_encode .aslAcc [], decode_encode .clc [], decode_encode .brk []⟩

/-- The instructions a row makes are encoded as its opcode byte and those of the two bytes its mode has. -/
def OpRow.MakesItsEncoding (r : OpRow) : Prop :=
  ∀ b1 b2 : Byte, encode (r.make b1 b2) = r.opcode :: [b1, b2].take (r.mode.length - 1)

/-- The map's rows, high digit by high digit; the list of bytes is worked out before the encoder's tables are unfolded,
which is what keeps this cheap. -/
theorem makesItsEncoding_of_mem_rowsOf (k : Nat) : ∀ r ∈ rowsOf k, r.MakesItsEncoding := by
  unfold rowsOf
  split <;> simp [OpRow.MakesItsEncoding, encode, Mode.length] <;> simp [Instr.opcode, Instr.operands]

theorem makesItsEncoding_of_findRow {op : Byte} {r : OpRow} (h : findRow op = some r) : r.MakesItsEncoding :=
  makesItsEncoding_of_mem_rowsOf _ r (List.mem_of_find?_eq_some h)

/-- What a row reads it makes of the first bytes its mode has, and the others are left over. -/
theorem OpRow.read_ok {r : OpRow} {bs rest : List Byte} {i : Instr} (h : r.read bs = .ok (i, rest)) :
    ∃ b1 b2, i = r.make b1 b2 ∧ bs = [b1, b2].take (r.mode.length - 1) ++ rest := by
  unfold OpRow.read at h
  split at h
  case h_1 hlen => cases h; exact ⟨0, 0, rfl, by simp [hlen]⟩
  case h_2 b1 _ hlen => cases h; exact ⟨b1, 0, rfl, by simp [hlen]⟩
  case h_3 b1 b2 _ hlen => cases h; exact ⟨b1, b2, rfl, by simp [hlen]⟩
  case h_4 => cases h

/-- Settles O19: what decodes was read by the row of its opcode byte, and what a row makes is encoded as that byte and
the bytes the row took. -/
theorem encodeOfDecodeIsTheBytes : Obligations.EncodeOfDecodeIsTheBytes := by
  intro bs i rest h
  match bs with
  | [] => simp [decode] at h
  | op :: bs =>
    cases hrow : findRow op with
    | none => simp [decode_cons_of_no_row bs hrow] at h
    | some r =>
      rw [decode_cons_of_findRow bs hrow] at h
      obtain ⟨b1, b2, rfl, rfl⟩ := OpRow.read_ok h
      rw [makesItsEncoding_of_findRow hrow, findRow_opcode hrow, List.cons_append]

/-- The map has no row for the bytes of R122 and a row for each other byte. -/
theorem findRow_eq_none_iff (op : Byte) : findRow op = none ↔ op ∈ Machine.illegalOpcodes := by
  have hall : ∀ op : Byte, (findRow op).isNone = decide (op ∈ Machine.illegalOpcodes) := by decide
  rw [← Option.isNone_iff_eq_none, hall, decide_eq_true_iff]

/-- A row never answers that an opcode is illegal. -/
theorem OpRow.read_ne_illegalOpcode (r : OpRow) (bs : List Byte) (op : Byte) :
    r.read bs ≠ .error (.illegalOpcode op) := by
  unfold OpRow.read
  split <;> simp

/-- Settles O20: the decoder answers so where the map has no row, and there only. -/
theorem exactlyTheListedOpcodesAreIllegal : Obligations.ExactlyTheListedOpcodesAreIllegal := by
  refine ⟨fun op rest => ?_, rfl, by decide⟩
  rw [← findRow_eq_none_iff]
  refine ⟨decode_cons_of_no_row rest, fun h => ?_⟩
  cases hrow : findRow op with
  | none => rfl
  | some r =>
    rw [decode_cons_of_findRow rest hrow] at h
    exact absurd h (r.read_ne_illegalOpcode rest op)

end Sys2Proof
end

section
/-! SUPPORT. The boundary of a step (spec/30_encoding.md R100, R101): which of its three ways it goes, and that the
bytes of an instruction at PC are fetched as that instruction. -/

namespace Sys2Proof.Machine

theorem step_of_pendingNmi {s : State} (h : s.halted = none) (hn : pendingNmi (deliverInputs s) = true) :
    step s = .next (finishStep Config.intEntryCycles (interruptEntry .nmi (deliverInputs s))) := by
  simp [step, h, stepBoundary, hn]

theorem step_of_pendingIrq {s : State} (h : s.halted = none) (hn : pendingNmi (deliverInputs s) = false)
    (hi : pendingIrq (deliverInputs s) = true) (hp : s.p.i = false) :
    step s = .next (finishStep Config.intEntryCycles (interruptEntry .irq (deliverInputs s))) := by
  simp [step, h, stepBoundary, hn, hi, hp]

/-- Settles O26: the three ways of the boundary, in the order of R270. -/
theorem interruptsAreTakenByPriority : Obligations.InterruptsAreTakenByPriority :=
  fun _ h => ⟨step_of_pendingNmi h, step_of_pendingIrq h, step_no_interrupt h, fun _ => rfl⟩

/-- The bytes fetched are the encoding that stands at PC: its opcode byte says how many they are (R101, R121). -/
theorem fetchBytes_eq_encode {s : State} {i : Instr}
    (h : ∀ (k : Nat) (hk : k < (encode i).length), memRead s (s.pc + BitVec.ofNat 16 k) = (encode i)[k]) :
    fetchBytes s = encode i := by
  have hop : memRead s s.pc = i.opcode := by simpa [encode] using h 0 (by simp [encode])
  have hlength : lengthOf (memRead s s.pc) = (encode i).length := by rw [hop, lengthOf_opcode, Instr.length]
  refine List.ext_getElem (by simp [fetchBytes, hlength]) fun k _ hk => ?_
  simpa [fetchBytes] using h k hk

theorem fetch_eq_ok {s : State} {i : Instr}
    (h : ∀ (k : Nat) (hk : k < (encode i).length), memRead s (s.pc + BitVec.ofNat 16 k) = (encode i)[k]) :
    fetch s = .ok i := by
  have hdecode : decode (encode i) = .ok (i, []) := by simpa using decode_encode i []
  simp [fetch, fetchBytes_eq_encode h, hdecode]

/-- Settles O22: no interrupt is taken, the fetch finds `i`, and `i` is run to the end of the step. -/
theorem stepRunsTheInstructionAtPc : Obligations.StepRunsTheInstructionAtPc := by
  intro s i hhalted hnmi hirq hbytes u
  have hu : advance i (deliverInputs s) = u := by simp [advance, u, Instr.length]
  have hfetch : fetch (deliverInputs s) = .ok i := fetch_eq_ok (by simpa using hbytes)
  obtain ⟨t, hexec, hrun⟩ := runInstr_next i (deliverInputs s)
  rw [step_no_interrupt hhalted hnmi hirq, executeOne, hfetch]
  rw [hu] at hexec hrun
  simp only [hrun, hexec]
  rfl

end Sys2Proof.Machine
end

section
/-! SUPPORT. Addresses (spec/30_encoding.md R107 to R115): the effective address of each mode in exact arithmetic, and
the address of the second byte of an indirect jump's pointer. -/

namespace Sys2Proof.Machine

theorem zext_toNat (b : Byte) : (zext b).toNat = b.toNat := by
  rw [zext, BitVec.toNat_setWidth_of_le (by decide)]

theorem memRead16ZP_toNat (s : State) (zp : Byte) : (memRead16ZP s zp).toNat =
    (memRead s (BitVec.ofNat 16 ((zp.toNat + 1) % 256))).toNat * 256 + (memRead s (BitVec.ofNat 16 zp.toNat)).toNat :=
  (wordsAreReadLowByteFirst s 0 zp).2

/-- Settles O32: a sum of bytes wraps modulo 256 and a sum of a word and a byte modulo 65536; the two indirect modes
read their pointer in page zero. -/
theorem effectiveAddressesFollowTheModes : Obligations.EffectiveAddressesFollowTheModes := by
  intro s d8 a16
  have hindx : ((d8.toNat + s.x.toNat) % 256 + 1) % 256 = (d8.toNat + s.x.toNat + 1) % 256 := Nat.mod_add_mod _ _ _
  simp [ea, zext_toNat, memRead16ZP_toNat, BitVec.toNat_add, hindx]

theorem loByte_toNat (w : Addr) : (loByte w).toNat = w.toNat % 256 := BitVec.toNat_setWidth 8 w

theorem hiByte_toNat (w : Addr) : (hiByte w).toNat = w.toNat / 256 := by
  rw [hiByte, BitVec.toNat_setWidth, BitVec.toNat_ushiftRight, Nat.shiftRight_eq_div_pow]
  exact Nat.mod_eq_of_lt (by omega)

/-- The next address in the page of `a`, as R113 says it with the page wrap. -/
theorem wordOf_hiByte_loByte_add_one (a : Addr) :
    wordOf (hiByte a) (loByte a + 1) = BitVec.ofNat 16 (a.toNat / 256 * 256 + (a.toNat + 1) % 256) := by
  have hhi := hiByte_toNat a
  have hlo := loByte_toNat a
  have hword := wordOf_toNat (hiByte a) (loByte a + 1)
  bv_omega

theorem add_one_eq_ofNat (a : Addr) : a + 1 = BitVec.ofNat 16 ((a.toNat + 1) % 65536) := by bv_omega

/-- Settles O49: the address of the pointer's high byte is the next in the page or the next of all, as the parameter
says. -/
theorem jumpsSetPc : Obligations.JumpsSetPc := by
  refine ⟨rfl, fun s a16 => ⟨rfl, ?target, fun _ => by omega⟩⟩
  case target =>
    have htarget : indirectTarget s a16 = wordOf (memRead s (BitVec.ofNat 16 (if s.config.jmpIndPageWrap then
        a16.toNat / 256 * 256 + (a16.toNat + 1) % 256 else (a16.toNat + 1) % 65536))) (memRead s a16) := by
      rw [indirectTarget, wordOf_hiByte_loByte_add_one, add_one_eq_ofNat, ← apply_ite]
    rw [← htarget]
    rfl

end Sys2Proof.Machine
end

section
/-! SUPPORT. The storing forms (spec/30_encoding.md R118): each is one bus write at the effective address with a change
of flags at most, and a bus write leaves every other byte of RAM and ROM. -/

namespace Sys2Proof.Machine

section
variable {d8 : Byte} {a16 : Addr} {f : Instr × MemOperand}

/-- The write class stores a byte at its address and does nothing else (R118, R144 to R146). -/
theorem exec_of_mem_storeForms (s : State) (h : f ∈ formsSta d8 a16 ++ formsStx d8 a16 ++ formsSty d8 a16) :
    ∃ v, exec f.1 s = .next (memWrite s (ea s f.2) v) := by
  simp only [formsSta, formsStx, formsSty, List.mem_append, List.mem_cons, List.not_mem_nil, or_false, or_assoc] at h
  rcases h with rfl | rfl | rfl | rfl | rfl | rfl | rfl | rfl | rfl | rfl | rfl | rfl | rfl <;> exact ⟨_, rfl⟩

/-- INC and DEC store a byte at their address and set N and Z by it (R184, R185). -/
theorem exec_of_mem_incDecForms (s : State) (h : f ∈ formsInc d8 a16 ++ formsDec d8 a16) :
    ∃ v, exec f.1 s = .next (setNZ v (memWrite s (ea s f.2) v)) := by
  simp only [formsInc, formsDec, List.mem_append, List.mem_cons, List.not_mem_nil, or_false, or_assoc] at h
  rcases h with rfl | rfl | rfl | rfl | rfl | rfl | rfl | rfl <;> exact ⟨_, rfl⟩

/-- A memory form of a shift stores a byte at its address and sets N, Z and C (R200). -/
theorem exec_of_mem_shiftForms (s : State)
    (h : f ∈ formsAsl d8 a16 ++ formsLsr d8 a16 ++ formsRol d8 a16 ++ formsRor d8 a16) :
    ∃ k, exec f.1 s = .next (setShiftFlags k (memWrite s (ea s f.2) k.1)) := by
  simp only [formsAsl, formsLsr, formsRol, formsRor, List.mem_append, List.mem_cons, List.not_mem_nil, or_false,
    or_assoc] at h
  rcases h with rfl | rfl | rfl | rfl | rfl | rfl | rfl | rfl | rfl | rfl | rfl | rfl | rfl | rfl | rfl | rfl <;>
    exact ⟨_, rfl⟩

/-- A storing form is one bus write at its address and a change of no other flag than N, Z and C. -/
theorem exec_storingForm {s t : State}
    (hf : f ∈ formsSta d8 a16 ++ formsStx d8 a16 ++ formsSty d8 a16 ++ formsInc d8 a16 ++ formsDec d8 a16 ++
      formsAsl d8 a16 ++ formsLsr d8 a16 ++ formsRol d8 a16 ++ formsRor d8 a16) (h : exec f.1 s = .next t) :
    ∃ (v : Byte) (n z c : Bool), t = { memWrite s (ea s f.2) v with p := { s.p with n := n, z := z, c := c } } := by
  have hcases : f ∈ formsSta d8 a16 ++ formsStx d8 a16 ++ formsSty d8 a16 ∨ f ∈ formsInc d8 a16 ++ formsDec d8 a16 ∨
      f ∈ formsAsl d8 a16 ++ formsLsr d8 a16 ++ formsRol d8 a16 ++ formsRor d8 a16 := by
    simpa only [List.mem_append, or_assoc] using hf
  rcases hcases with hf | hf | hf
  · obtain ⟨v, hv⟩ := exec_of_mem_storeForms s hf
    cases hv.symm.trans h
    exact ⟨v, s.p.n, s.p.z, s.p.c, by rw [memWrite_eq]⟩
  · obtain ⟨v, hv⟩ := exec_of_mem_incDecForms s hf
    cases hv.symm.trans h
    exact ⟨v, v.msb, v == 0, s.p.c, by simp [setNZ, Flags.withNZ]⟩
  · obtain ⟨k, hk⟩ := exec_of_mem_shiftForms s hf
    cases hk.symm.trans h
    exact ⟨k.1, k.1.msb, k.1 == 0, k.2, by simp [setShiftFlags, Flags.withNZ]⟩

end

/-- A write to an address of RAM or ROM reaches no device. -/
theorem memWrite_of_isMemory {s : State} {a : Addr} (v : Byte) (h : isMemory s a = true) :
    memWrite s a v = { s with mem := (memWrite s a v).mem } := by
  cases ht : busTarget s a <;> simp [isMemory, memWrite, ht] at h ⊢

/-- A bus write changes no byte of RAM or ROM but that at its address. -/
theorem memRead_memWrite_of_ne {s : State} {a b : Addr} (v : Byte) (hab : a ≠ b) (hb : isMemory s b = true) :
    memRead (memWrite s a v) b = memRead s b := by
  have hb' : isMemory (memWrite s a v) b = true := by rw [isMemory_congr (memWrite_config s a v), hb]
  rw [memRead_of_isMemory hb', memRead_of_isMemory hb, memWrite_read_of_ne v hab]

/-- Settles O35: a storing form is one bus write at its address with a change of N, Z and C at most, and such a write
leaves the other bytes and, at an address of RAM or ROM, the devices. -/
theorem memoryFormsChangeOneByteOnly : Obligations.MemoryFormsChangeOneByteOnly := by
  intro s t d8 a16 f hf h
  have hstore : f ∈ formsSta d8 a16 ++ formsStx d8 a16 ++ formsSty d8 a16 → t.p = s.p := fun hf => by
    obtain ⟨v, hv⟩ := exec_of_mem_storeForms s hf
    cases hv.symm.trans h
    simp
  have hincDec : f ∈ formsInc d8 a16 ++ formsDec d8 a16 → t.p.c = s.p.c := fun hf => by
    obtain ⟨v, hv⟩ := exec_of_mem_incDecForms s hf
    cases hv.symm.trans h
    simp
  obtain ⟨v, n, z, c, rfl⟩ := exec_storingForm hf h
  refine ⟨by simp, by simp, by simp, by simp, by simp, rfl, rfl, rfl, hstore, hincDec, by simp, by simp, fun hmem => ?_,
    fun a hne ha => memRead_memWrite_of_ne v hne.symm ha⟩
  rw [memWrite_of_isMemory v hmem]
  exact ⟨rfl, rfl, rfl⟩

end Sys2Proof.Machine
end

section
/-! SUPPORT. Loads, stores and transfers (spec/40_load_store_transfer.md): each is one operation on a register or on
the bus, in every form, and the flags it sets are bit 7 of the byte and whether the byte is zero (R31). -/

namespace Sys2Proof.Machine

/-- N and Z as R31 says them of the byte: its bit 7, and whether it is zero. -/
theorem setNZ_eq (v : Byte) (s : State) :
    setNZ v s = { s with p := { s.p with n := v.getLsbD 7, z := decide (v = 0) } } := by
  rw [setNZ, Flags.withNZ, beq_eq_decide, BitVec.msb_eq_getLsbD_last]

section
variable {d8 : Byte} {a16 : Addr}

/-! ### The forms of each load -/

section
variable {s : State} {f : Instr × Byte}

theorem exec_of_mem_formsLda (h : f ∈ formsLda s d8 a16) : exec f.1 s = .next (loadA f.2 s) := by
  simp only [formsLda, List.mem_cons, List.not_mem_nil, or_false] at h
  rcases h with rfl | rfl | rfl | rfl | rfl | rfl | rfl | rfl <;> rfl

theorem exec_of_mem_formsLdx (h : f ∈ formsLdx s d8 a16) : exec f.1 s = .next (loadX f.2 s) := by
  simp only [formsLdx, List.mem_cons, List.not_mem_nil, or_false] at h
  rcases h with rfl | rfl | rfl | rfl | rfl <;> rfl

theorem exec_of_mem_formsLdy (h : f ∈ formsLdy s d8 a16) : exec f.1 s = .next (loadY f.2 s) := by
  simp only [formsLdy, List.mem_cons, List.not_mem_nil, or_false] at h
  rcases h with rfl | rfl | rfl | rfl | rfl <;> rfl

end

/-! ### The forms of each store -/

section
variable {f : Instr × MemOperand} (s : State)

theorem exec_of_mem_formsSta (h : f ∈ formsSta d8 a16) : exec f.1 s = .next (storeAt f.2 s.a s) := by
  simp only [formsSta, List.mem_cons, List.not_mem_nil, or_false] at h
  rcases h with rfl | rfl | rfl | rfl | rfl | rfl | rfl <;> rfl

theorem exec_of_mem_formsStx (h : f ∈ formsStx d8 a16) : exec f.1 s = .next (storeAt f.2 s.x s) := by
  simp only [formsStx, List.mem_cons, List.not_mem_nil, or_false] at h
  rcases h with rfl | rfl | rfl <;> rfl

theorem exec_of_mem_formsSty (h : f ∈ formsSty d8 a16) : exec f.1 s = .next (storeAt f.2 s.y s) := by
  simp only [formsSty, List.mem_cons, List.not_mem_nil, or_false] at h
  rcases h with rfl | rfl | rfl <;> rfl

end

end

/-! ### The transfers that set flags -/

theorem exec_tax (s : State) : exec .tax s = .next (transferToX s.a s) := rfl
theorem exec_tay (s : State) : exec .tay s = .next (transferToY s.a s) := rfl
theorem exec_txa (s : State) : exec .txa s = .next (transferToA s.x s) := rfl
theorem exec_tya (s : State) : exec .tya s = .next (transferToA s.y s) := rfl
theorem exec_tsx (s : State) : exec .tsx s = .next (transferToX s.sp s) := rfl

/-- Settles O33: every form of a load is one operation on its register with the operand byte, which sets N and Z from
that byte. -/
theorem loadsWriteTheRegisterAndNZ : Obligations.LoadsWriteTheRegisterAndNZ := by
  refine ⟨fun s d8 a16 => ⟨rfl, rfl, rfl⟩, fun s d8 a16 f => ⟨fun h => ?lda, fun h => ?ldx, fun h => ?ldy⟩⟩
  case lda => rw [exec_of_mem_formsLda h, loadA, setNZ_eq]
  case ldx => rw [exec_of_mem_formsLdx h, loadX, setNZ_eq]
  case ldy => rw [exec_of_mem_formsLdy h, loadY, setNZ_eq]

/-- Settles O34: every form of a store is one bus write of its register at the form's address, and ROM ignores such a
write. -/
theorem storesWriteTheRegisterAtTheAddress : Obligations.StoresWriteTheRegisterAtTheAddress :=
  ⟨fun _ _ => ⟨rfl, rfl, rfl⟩, fun s _ _ _ =>
    ⟨exec_of_mem_formsSta s, exec_of_mem_formsStx s, exec_of_mem_formsSty s, fun _ v => memWrite_of_rom v⟩⟩

/-- Settles O36: a transfer to A, X or Y sets N and Z from the byte it copies; TXS only copies. -/
theorem transfersCopyARegister : Obligations.TransfersCopyARegister := by
  refine ⟨rfl, fun s => ⟨?tax, ?tay, ?txa, ?tya, ?tsx, rfl⟩⟩
  case tax => rw [exec_tax, transferToX, setNZ_eq]
  case tay => rw [exec_tay, transferToY, setNZ_eq]
  case txa => rw [exec_txa, transferToA, setNZ_eq]
  case tya => rw [exec_tya, transferToA, setNZ_eq]
  case tsx => rw [exec_tsx, transferToX, setNZ_eq]

end Sys2Proof.Machine
end

section
/-! SUPPORT. The stack (spec/41_stack.md): what one push leaves in memory and leaves alone, and, over several pushes one
below the other, that only their bytes of the stack page change. -/

namespace Sys2Proof.Machine

/-! ### One push -/

/-- A push is one bus write at $0100 + SP, with SP one lower (R160). -/
theorem push_eq (v : Byte) (s : State) :
    push v s = { memWrite s (0x0100 + zext s.sp) v with sp := s.sp - 1 } := by
  rw [push, stackAddr_eq]

theorem memRead_push (v : Byte) (s : State) (b : Addr) :
    memRead (push v s) b = memRead (memWrite s (stackAddr s.sp) v) b := rfl

theorem memRead_push_self {s : State} (v : Byte) (hwf : s.mem.wf = true) (hram : busTarget s (stackAddr s.sp) = .ram) :
    memRead (push v s) (stackAddr s.sp) = v :=
  ((ramAndRomBytesFollowTheirRules s (stackAddr s.sp) v hwf).1 hram).1

theorem memRead_push_of_ne {s : State} {b : Addr} (v : Byte) (hne : b ≠ stackAddr s.sp) (hb : isMemory s b = true) :
    memRead (push v s) b = memRead s b := by
  rw [memRead_push, memRead_memWrite_of_ne v hne.symm hb]

/-- A push to RAM writes a cell and SP. -/
theorem push_of_ram {s : State} (v : Byte) (h : busTarget s (stackAddr s.sp) = .ram) :
    push v s = { s with mem := s.mem.write (stackAddr s.sp).toNat v, sp := s.sp - 1 } := by
  rw [push, memWrite_of_ram v h]

theorem pullByte_push {s : State} (v : Byte) (hwf : s.mem.wf = true) (hram : busTarget s (stackAddr s.sp) = .ram) :
    pullByte (push v s) = v := by
  rw [pullByte_eq, push_sp, BitVec.sub_add_cancel, memRead_push_self v hwf hram]

theorem stackAddr_eq_ofNat (sp : Byte) : stackAddr sp = BitVec.ofNat 16 (0x0100 + sp.toNat) := by
  have hsp := zext_toNat sp
  rw [stackAddr_eq]
  bv_omega

theorem stackAddr_toNat (sp : Byte) : (stackAddr sp).toNat = 0x0100 + sp.toNat := by
  rw [stackAddr_eq_ofNat, BitVec.toNat_ofNat, Nat.mod_eq_of_lt (by omega)]

/-- Settles O31: the byte is written in a canonical memory at the address that the pull comes back to, and no other byte
of RAM or ROM is written. -/
theorem pullAfterPushReturnsTheByte : Obligations.PullAfterPushReturnsTheByte := by
  intro s v hwf hstack
  have hram := hstack s.sp
  refine ⟨pullByte_push v hwf hram, ?restored, ?down, ?up, ?pulls, ?pushed, fun b hne hb => ?others, rfl,
    fun _ => rfl⟩
  case restored => rw [pulled_sp, push_sp, BitVec.sub_add_cancel]
  case down => rw [push_sp, BitVec.toNat_sub, Nat.add_comm]; rfl
  case up => rw [pulled_sp, BitVec.toNat_add]; rfl
  case pulls => rw [pullByte_eq, stackAddr_eq_ofNat, BitVec.toNat_add]; rfl
  case pushed => rw [← stackAddr_eq_ofNat, memRead_push_self v hwf hram]
  case others =>
    refine memRead_push_of_ne v (fun hab => hne ?_) hb
    rw [hab, stackAddr_toNat]

/-! ### Several pushes -/

/-- What `n` pushes from `s` to `t` keep: A, X, Y and the draw counter stay, SP is `n` lower, the devices stay when the
stack page is RAM, and of RAM and ROM only the `n` bytes at SP and below are written. It says nothing of PC and the
flags, which the pushing forms set in their own ways. -/
structure PushFrame (n : Nat) (s t : State) : Prop where
  config : t.config = s.config
  a : t.a = s.a
  x : t.x = s.x
  y : t.y = s.y
  freeCount : t.freeCount = s.freeCount
  sp : t.sp = s.sp - BitVec.ofNat 8 n
  devices : StackIsRam s → t.ic = s.ic ∧ t.kbd = s.kbd ∧ t.crtc = s.crtc
  others : ∀ a : Addr, (∀ k, k < n → a ≠ stackAddr (s.sp - BitVec.ofNat 8 k)) → isMemory s a = true →
    memRead t a = memRead s a

theorem PushFrame.refl (s : State) : PushFrame 0 s s :=
  ⟨rfl, rfl, rfl, rfl, rfl, (BitVec.sub_zero _).symm, fun _ => ⟨rfl, rfl, rfl⟩, fun _ _ _ => rfl⟩

theorem PushFrame.after_push {n : Nat} {s t : State} (v : Byte) (h : PushFrame n s t) :
    PushFrame (n + 1) s (push v t) where
  config := by rw [push_config, h.config]
  a := by rw [push_a, h.a]
  x := by rw [push_x, h.x]
  y := by rw [push_y, h.y]
  freeCount := by rw [push_freeCount, h.freeCount]
  sp := by rw [push_sp, h.sp, BitVec.sub_sub, BitVec.ofNat_add]; rfl
  devices hstack := by
    have hram : busTarget t (stackAddr t.sp) = .ram := by rw [busTarget_congr h.config, hstack]
    rw [push_of_ram v hram]
    exact h.devices hstack
  others a hne ha := by
    have hlast : a ≠ stackAddr t.sp := by rw [h.sp]; exact hne n n.lt_succ_self
    have ha' : isMemory t a = true := by rw [isMemory_congr h.config, ha]
    rw [memRead_push_of_ne v hlast ha', h.others a (fun k hk => hne k (Nat.lt_succ_of_lt hk)) ha]

theorem PushFrame.with_p_pc {n : Nat} {s t : State} (p : Flags) (pc : Addr) (h : PushFrame n s t) :
    PushFrame n s { t with p := p, pc := pc } :=
  ⟨h.config, h.a, h.x, h.y, h.freeCount, h.sp, h.devices, h.others⟩

theorem pushFrame_push (v : Byte) (s : State) : PushFrame 1 s (push v s) := (PushFrame.refl s).after_push v

theorem pushFrame_pushWord (w : Addr) (s : State) : PushFrame 2 s (pushWord w s) :=
  (pushFrame_push (hiByte w) s).after_push (loByte w)

theorem pushFrame_takeException (ret : Addr) (b : Bool) (vector : Addr) (s : State) :
    PushFrame 3 s (takeException ret b vector s) :=
  ((pushFrame_pushWord ret s).after_push _).with_p_pc _ _

/-- Each pushing form is its number of pushes, and of the flags only BRK writes one, which is I. -/
theorem pushFrame_of_exec {s t : State} {a16 : Addr} {f : Instr × Nat}
    (hf : f ∈ [(.pha, 1), (.php, 1), (.jsr a16, 2), (.brk, 3)]) (h : exec f.1 s = .next t) :
    PushFrame f.2 s t ∧ (f.1 ≠ .brk → t.p = s.p) ∧ (f.1 = .brk → t.p = { s.p with i := true }) := by
  simp only [List.mem_cons, List.not_mem_nil, or_false] at hf
  rcases hf with rfl | rfl | rfl | rfl <;> cases h
  · exact ⟨pushFrame_push s.a s, fun _ => push_p _ _, nofun⟩
  · exact ⟨pushFrame_push (s.p.toByte true) s, fun _ => push_p _ _, nofun⟩
  · exact ⟨(pushFrame_pushWord (s.pc - 1) s).with_p_pc _ a16, fun _ => by simp [jumpToSubroutine, pushWord], nofun⟩
  · exact ⟨pushFrame_takeException _ _ _ s, fun hne => absurd rfl hne, fun _ => takeException_p _ _ _ _⟩

/-- Settles O55: each form is a number of pushes, and each push keeps the frame. -/
theorem stackFormsChangeOnlyTheirStackBytes : Obligations.StackFormsChangeOnlyTheirStackBytes := by
  intro s t a16 f hf h
  obtain ⟨hframe, hkept, hbrk⟩ := pushFrame_of_exec hf h
  exact ⟨hframe.a, hframe.x, hframe.y, hframe.freeCount, hkept, hbrk, hframe.sp, hframe.devices,
    by simpa only [stackAddr_eq] using hframe.others⟩

/-! ### The instructions -/

/-- The places of the flags in the byte image of P (R25), over its 128 cases. -/
theorem Flags.toByte_getLsbD (p : Flags) (b : Bool) :
    (p.toByte b).getLsbD 7 = p.n ∧ (p.toByte b).getLsbD 6 = p.v ∧ (p.toByte b).getLsbD 5 = true ∧
      (p.toByte b).getLsbD 4 = b ∧ (p.toByte b).getLsbD 3 = p.d ∧ (p.toByte b).getLsbD 2 = p.i ∧
      (p.toByte b).getLsbD 1 = p.z ∧ (p.toByte b).getLsbD 0 = p.c := by
  obtain ⟨n, v, d, i, z, c⟩ := p
  revert n v d i z c b
  decide

theorem exec_pha (s : State) : exec .pha s = .next (push s.a s) := rfl
theorem exec_php (s : State) : exec .php s = .next (push (s.p.toByte true) s) := rfl
theorem exec_pla (s : State) : exec .pla s = .next (setNZ (pullByte s) { pulled s with a := pullByte s }) := rfl
theorem exec_plp (s : State) : exec .plp s = .next { pulled s with p := Flags.ofByte (pullByte s) } := rfl

/-- Settles O37: each form is one push, and the byte image of P has the flags in their places. -/
theorem pushesWriteTheStackByte : Obligations.PushesWriteTheStackByte := by
  refine ⟨rfl, fun s => ⟨?pha, ?php⟩, Flags.toByte_getLsbD⟩
  case pha => rw [exec_pha, push_eq]
  case php => rw [exec_php, push_eq]

/-- Settles O38: each form is one pull, whose byte is the one at $0100 + the new SP. -/
theorem pullsReadTheStackByte : Obligations.PullsReadTheStackByte := by
  refine ⟨rfl, fun s => ?_⟩
  rw [← stackAddr_eq, ← pullByte_eq]
  refine ⟨?pla, exec_plp s⟩
  rw [exec_pla, setNZ_eq]
  rfl

end Sys2Proof.Machine
end

section
/-! SUPPORT. The arithmetic of bytes (spec/42_arith_logic.md R171 to R173, R179): binary addition and subtraction with
their flags in exact arithmetic, the decimal helpers in the masks of the rules, and what these give on packed decimal. -/

namespace Sys2Proof.Machine

/-! ### Binary addition and subtraction -/

theorem and_0x80_bne_zero (x : Byte) : (x &&& 0x80#8 != 0#8) = x.msb := by
  have htop : 0x80#8 = BitVec.twoPow 8 7 := rfl
  rw [htop, BitVec.and_twoPow, BitVec.msb_eq_getLsbD_last]
  cases x.getLsbD 7 <;> rfl

/-- V of an addition: the operands have one sign and the result has the other exactly when the signed sum does not fit
in eight bits (R171). -/
theorem signedOverflow_eq (a m : Byte) (c : Bool) {r : Byte}
    (hr : r = BitVec.ofNat 8 (a.toNat + m.toNat + c.toNat)) :
    ((a ^^^ r) &&& (m ^^^ r) &&& 0x80#8 != 0#8) =
      decide (a.toInt + m.toInt + c.toNat < -128 ∨ 127 < a.toInt + m.toInt + c.toNat) := by
  have hnat : r.toNat = (a.toNat + m.toNat + c.toNat) % 256 := by rw [hr, BitVec.toNat_ofNat]
  have hc := c.toNat_lt
  rw [and_0x80_bne_zero, BitVec.msb_and, BitVec.msb_xor, BitVec.msb_xor, Bool.eq_iff_iff]
  simp only [BitVec.toInt_eq_toNat_cond, BitVec.msb_eq_decide, Bool.and_eq_true, bne_iff_ne, ne_eq, decide_eq_decide,
    decide_eq_true_eq]
  omega

theorem ofNat_mod_256 (n : Nat) : BitVec.ofNat 8 (n % 256) = BitVec.ofNat 8 n :=
  BitVec.eq_of_toNat_eq (by simp)

/-- R171 in exact arithmetic. -/
theorem addBinary_eq (a m : Byte) (c : Bool) :
    let sum := a.toNat + m.toNat + c.toNat
    let signed := a.toInt + m.toInt + c.toNat
    let r := BitVec.ofNat 8 (sum % 256)
    addBinary a m c =
      { r := r, c := decide (256 ≤ sum), n := r.getLsbD 7, v := decide (signed < -128 ∨ 127 < signed),
        z := decide (r = 0) } := by
  intro sum signed r
  have hr : r = BitVec.ofNat 8 sum := ofNat_mod_256 sum
  rw [addBinary, ← signedOverflow_eq a m c hr, ← hr, BitVec.msb_eq_getLsbD_last, beq_eq_decide]

theorem toNat_xor_0xFF (m : Byte) : (m ^^^ 0xFF#8).toNat = 255 - m.toNat := by
  have hones : 0xFF#8 = BitVec.allOnes 8 := rfl
  rw [hones, BitVec.xor_allOnes, BitVec.toNat_not]

theorem toInt_xor_0xFF (m : Byte) : (m ^^^ 0xFF#8).toInt = -1 - m.toInt := by
  have hnat := toNat_xor_0xFF m
  simp only [BitVec.toInt_eq_toNat_cond]
  omega

/-- Adding the complement of `m` is the subtraction of R175: the sum is 256 above the difference with borrow, and the
signed sum is the signed difference. -/
theorem addBinary_xor_0xFF_eq (a m : Byte) (c : Bool) :
    let diff : Int := (a.toNat : Int) - m.toNat - (1 - c.toNat)
    let signed : Int := a.toInt - m.toInt - (1 - c.toNat)
    let r := BitVec.ofInt 8 diff
    addBinary a (m ^^^ 0xFF#8) c =
      { r := r, c := decide (0 ≤ diff), n := r.getLsbD 7, v := decide (signed < -128 ∨ 127 < signed),
        z := decide (r = 0) } := by
  intro diff signed r
  have hsum : ((a.toNat + (m ^^^ 0xFF#8).toNat + c.toNat : Nat) : Int) = diff + 256 := by
    rw [toNat_xor_0xFF]
    omega
  have hsigned : a.toInt + (m ^^^ 0xFF#8).toInt + c.toNat = signed := by
    rw [toInt_xor_0xFF]
    omega
  have hr : BitVec.ofNat 8 ((a.toNat + (m ^^^ 0xFF#8).toNat + c.toNat) % 256) = r := by
    apply BitVec.eq_of_toNat_eq
    simp only [r, BitVec.toNat_ofNat, BitVec.toNat_ofInt]
    omega
  have hcarry : 256 ≤ a.toNat + (m ^^^ 0xFF#8).toNat + c.toNat ↔ 0 ≤ diff := by omega
  rw [addBinary_eq, hr, hsigned, decide_eq_decide.mpr hcarry]

/-- R179 in exact arithmetic. -/
theorem Flags.compare_eq (p : Flags) (r m : Byte) :
    p.compare r m = { p with
      c := decide (m.toNat ≤ r.toNat)
      z := decide (r = m)
      n := (BitVec.ofNat 8 (r.toNat + 256 - m.toNat)).getLsbD 7 } := by
  have hdiff : r - m = BitVec.ofNat 8 (r.toNat + 256 - m.toNat) := by bv_omega
  rw [Flags.compare, hdiff, BitVec.msb_eq_getLsbD_last, beq_eq_decide]

theorem add_one_eq_ofNat_toNat (b : Byte) : b + 1 = BitVec.ofNat 8 (b.toNat + 1) := by bv_omega

theorem sub_one_eq_ofNat_toNat (b : Byte) : b - 1 = BitVec.ofNat 8 (b.toNat + 255) := by bv_omega

/-! ### The decimal helpers in the masks of the rules -/

theorem nat_and_0x0F (n : Nat) : n &&& 0x0F = n % 16 := Nat.and_two_pow_sub_one_eq_mod n 4

theorem and_0x0F_toNat (b : Byte) : (b &&& 0x0F#8).toNat = b.toNat % 16 := nat_and_0x0F b.toNat

theorem and_0xF0_toNat : ∀ b : Byte, (b &&& 0xF0#8).toNat = b.toNat / 16 * 16 := by decide

theorem decide_and_0x80_ne_zero (n : Nat) : decide (n &&& 0x80 ≠ 0) = n.testBit 7 := by
  have hbit : n &&& 0x80 = (n.testBit 7).toNat * 128 := Nat.and_two_pow n 7
  rw [hbit]
  cases n.testBit 7 <;> rfl

/-- Settles O41: the masks of the rules are the quotients and remainders by 16 of the helpers, and the byte of an
integer is its remainder by 256. -/
theorem decimalHelpersAreTheNibbleAlgorithms : Obligations.DecimalHelpersAreTheNibbleAlgorithms := by
  intro a m c
  simp only [and_0x0F_toNat, and_0xF0_toNat, nat_and_0x0F, decide_and_0x80_ne_zero, ofNat_mod_256]
  refine ⟨rfl, ?sub⟩
  simp only [subDecimal, BitVec.toNat_ofInt]
  exact Int.toNat_of_nonneg (Int.emod_nonneg _ (by decide))

/-! ### The decimal helpers on packed decimal -/

theorem bcd_of_toNat_eq {b : Byte} {t : Nat} (ht : t < 100) (hb : b.toNat = t / 10 * 16 + t % 10) :
    ValidBcd b ∧ bcdValue b = t := by
  unfold ValidBcd bcdValue
  omega

/-- The corrections of R172, for a sum `h` of high digits and a sum `x` of low digits and carry: they turn the decimal
sum into its digits, one to a nibble. -/
theorem addDecimal_corrections {h x : Nat} (hh : h ≤ 18) (hx : x ≤ 19) :
    let al := if 0x0A ≤ x then (x + 0x06) % 16 + 0x10 else x
    let s0 := h * 16 + al
    (if 0xA0 ≤ s0 then s0 + 0x60 else s0) =
      (h * 10 + x) / 100 * 256 + (h * 10 + x) % 100 / 10 * 16 + (h * 10 + x) % 100 % 10 := by
  dsimp only
  split <;> split <;> omega

/-- The corrections of R173, for a difference `h` of high digits and a difference `x` of low digits with borrow: they
turn the decimal difference into its digits modulo 100, with 256 less when it is negative. -/
theorem subDecimal_corrections {h x : Int} (hh : -9 ≤ h ∧ h ≤ 9) (hx : -10 ≤ x ∧ x ≤ 9) :
    let al := if x < 0 then (x - 0x06) % 16 - 0x10 else x
    let s0 := h * 16 + al
    (if s0 < 0 then s0 - 0x60 else s0) =
      (h * 10 + x) / 100 * 256 + (h * 10 + x) % 100 / 10 * 16 + (h * 10 + x) % 100 % 10 := by
  dsimp only
  split <;> split <;> omega

section
variable {a m : Byte} (c : Bool)

theorem addDecimal_of_validBcd (ha : ValidBcd a) (hm : ValidBcd m) :
    let sum := bcdValue a + bcdValue m + c.toNat
    (addDecimal a m c).r.toNat = sum % 100 / 10 * 16 + sum % 100 % 10 ∧
      (addDecimal a m c).c = decide (100 ≤ sum) := by
  intro sum
  obtain ⟨hah, hal⟩ := ha
  obtain ⟨hmh, hml⟩ := hm
  have hc := c.toNat_lt
  have hs := addDecimal_corrections (h := a.toNat / 16 + m.toNat / 16)
    (x := a.toNat % 16 + m.toNat % 16 + c.toNat) (by omega) (by omega)
  have hsum : (a.toNat / 16 + m.toNat / 16) * 10 + (a.toNat % 16 + m.toNat % 16 + c.toNat) = sum := by
    simp only [sum, bcdValue]
    omega
  rw [hsum] at hs
  simp only [Nat.add_mul] at hs
  simp only [addDecimal, hs, BitVec.toNat_ofNat, decide_eq_decide]
  omega

theorem subDecimal_of_validBcd (ha : ValidBcd a) (hm : ValidBcd m) :
    let diff : Int := (bcdValue a : Int) - bcdValue m - (1 - c.toNat)
    ((subDecimal a m c).toNat : Int) = diff % 100 / 10 * 16 + diff % 100 % 10 := by
  intro diff
  obtain ⟨hah, hal⟩ := ha
  obtain ⟨hmh, hml⟩ := hm
  have hc := c.toNat_lt
  have hs := subDecimal_corrections (h := (a.toNat / 16 : Nat) - (m.toNat / 16 : Nat))
    (x := (a.toNat % 16 : Nat) - (m.toNat % 16 : Nat) + c.toNat - 1) (by omega) (by omega)
  have hdiff : ((a.toNat / 16 : Nat) - (m.toNat / 16 : Nat)) * 10 +
      ((a.toNat % 16 : Nat) - (m.toNat % 16 : Nat) + c.toNat - 1) = diff := by
    simp only [diff, bcdValue]
    omega
  rw [hdiff] at hs
  simp only [Int.sub_mul] at hs
  simp only [subDecimal, Nat.cast_mul, Nat.cast_ofNat, hs, BitVec.toNat_ofInt]
  omega

end

theorem bcdValue_le {b : Byte} (h : ValidBcd b) : bcdValue b ≤ 99 := by
  unfold ValidBcd at h
  unfold bcdValue
  omega

/-- Settles O42: after the corrections the two nibbles are the digits of the sum or difference modulo 100. -/
theorem decimalArithmeticIsExactOnBcd : Obligations.DecimalArithmeticIsExactOnBcd := by
  intro a m c ha hm k sum diff
  obtain ⟨hadd, hcarry⟩ := addDecimal_of_validBcd c ha hm
  have hsub : ((subDecimal a m c).toNat : Int) = diff % 100 / 10 * 16 + diff % 100 % 10 :=
    subDecimal_of_validBcd c ha hm
  obtain ⟨hvalid, hvalue⟩ := bcd_of_toNat_eq (Nat.mod_lt sum (by decide)) hadd
  obtain ⟨hvalid', hvalue'⟩ := bcd_of_toNat_eq (b := subDecimal a m c) (t := (diff % 100).toNat) (by omega) (by omega)
  refine ⟨hvalid, hvalue, hcarry, hvalid', ?_⟩
  have hrange : -100 ≤ diff ∧ diff ≤ 99 := by
    have hc := c.toNat_lt
    have ha' := bcdValue_le ha
    have hm' := bcdValue_le hm
    omega
  rw [hvalue']
  split <;> omega

end Sys2Proof.Machine
end

section
/-! SUPPORT. ADC and SBC (spec/42_arith_logic.md R174, R175): each form is one operation with its operand byte, and the
D flag and `DECIMAL_NVZ` say which helper's result it writes. -/

namespace Sys2Proof.Machine

section
variable {s : State} {d8 : Byte} {a16 : Addr} {f : Instr × Byte} (m : Byte)

theorem exec_of_mem_formsAdc (h : f ∈ formsAdc s d8 a16) : exec f.1 s = .next (addWithCarry f.2 s) := by
  simp only [formsAdc, List.mem_cons, List.not_mem_nil, or_false] at h
  rcases h with rfl | rfl | rfl | rfl | rfl | rfl | rfl | rfl <;> rfl

theorem exec_of_mem_formsSbc (h : f ∈ formsSbc s d8 a16) : exec f.1 s = .next (subtractWithBorrow f.2 s) := by
  simp only [formsSbc, List.mem_cons, List.not_mem_nil, or_false] at h
  rcases h with rfl | rfl | rfl | rfl | rfl | rfl | rfl | rfl <;> rfl

theorem addWithCarry_of_binary (hd : s.p.d = false) : addWithCarry m s = writeAlu (addBinary s.a m s.p.c) s := by
  simp [addWithCarry, hd]

theorem addWithCarry_of_nmos (hd : s.p.d = true) (hnvz : s.config.decimalNvz = .nmos) :
    addWithCarry m s = writeAlu (addDecimal s.a m s.p.c) s := by
  simp [addWithCarry, hd, hnvz]

theorem addWithCarry_of_draw (hd : s.p.d = true) (hnvz : s.config.decimalNvz = .draw) :
    addWithCarry m s = writeDrawn (addDecimal s.a m s.p.c).r (addDecimal s.a m s.p.c).c s := by
  simp [addWithCarry, hd, hnvz]

theorem subtractWithBorrow_of_binary (hd : s.p.d = false) :
    subtractWithBorrow m s = writeAlu (addBinary s.a (m ^^^ 0xFF#8) s.p.c) s := by
  simp [subtractWithBorrow, hd]

theorem subtractWithBorrow_of_nmos (hd : s.p.d = true) (hnvz : s.config.decimalNvz = .nmos) :
    subtractWithBorrow m s =
      writeAlu { addBinary s.a (m ^^^ 0xFF#8) s.p.c with r := subDecimal s.a m s.p.c } s := by
  simp [subtractWithBorrow, hd, hnvz]

theorem subtractWithBorrow_of_draw (hd : s.p.d = true) (hnvz : s.config.decimalNvz = .draw) :
    subtractWithBorrow m s = writeDrawn (subDecimal s.a m s.p.c) (addBinary s.a (m ^^^ 0xFF#8) s.p.c).c s := by
  simp [subtractWithBorrow, hd, hnvz]

end

/-- Settles O39: in binary mode ADC writes the exact sum of R171, in decimal mode the result of R172, and under `draw`
the flags N, V and Z are the free values. -/
theorem adcAddsWithCarry : Obligations.AdcAddsWithCarry := by
  refine ⟨fun _ _ _ => rfl, fun s d8 a16 f hf => ⟨fun hd => ?binary, fun hd hnvz => ?nmos, fun hd hnvz => ?draw⟩⟩
  case binary =>
    rw [exec_of_mem_formsAdc hf, addWithCarry_of_binary f.2 hd, addBinary_eq]
    rfl
  case nmos =>
    rw [exec_of_mem_formsAdc hf, addWithCarry_of_nmos f.2 hd hnvz]
    rfl
  case draw =>
    rw [exec_of_mem_formsAdc hf, addWithCarry_of_draw f.2 hd hnvz]
    exact ⟨_, _, _, _, rfl⟩

/-- Settles O40: SBC takes its carry, and except under `draw` N, V and Z, from the exact difference of R175 in both modes;
the byte is that difference or the result of R173. -/
theorem sbcSubtractsWithBorrow : Obligations.SbcSubtractsWithBorrow := by
  refine ⟨fun _ _ _ => rfl, fun s d8 a16 f hf => ⟨fun hd => ?binary, fun hd hnvz => ?nmos, fun hd hnvz => ?draw⟩⟩
  case binary =>
    rw [exec_of_mem_formsSbc hf, subtractWithBorrow_of_binary f.2 hd, addBinary_xor_0xFF_eq]
    rfl
  case nmos =>
    rw [exec_of_mem_formsSbc hf, subtractWithBorrow_of_nmos f.2 hd hnvz, addBinary_xor_0xFF_eq]
    rfl
  case draw =>
    rw [exec_of_mem_formsSbc hf, subtractWithBorrow_of_draw f.2 hd hnvz, addBinary_xor_0xFF_eq]
    exact ⟨_, _, _, _, rfl⟩

end Sys2Proof.Machine
end

section
/-! SUPPORT. Logic, compares, BIT, increments and decrements (spec/42_arith_logic.md R176 to R189): each form is one
operation on its operand, and INC and DEC are one bus write with N and Z of the byte written. -/

namespace Sys2Proof.Machine

section
variable {d8 : Byte} {a16 : Addr}

/-! ### The forms of the logic instructions, the compares and BIT -/

section
variable {s : State} {f : Instr × Byte}

theorem exec_of_mem_formsAnd (h : f ∈ formsAnd s d8 a16) : exec f.1 s = .next (andA f.2 s) := by
  simp only [formsAnd, List.mem_cons, List.not_mem_nil, or_false] at h
  rcases h with rfl | rfl | rfl | rfl | rfl | rfl | rfl | rfl <;> rfl

theorem exec_of_mem_formsOra (h : f ∈ formsOra s d8 a16) : exec f.1 s = .next (orA f.2 s) := by
  simp only [formsOra, List.mem_cons, List.not_mem_nil, or_false] at h
  rcases h with rfl | rfl | rfl | rfl | rfl | rfl | rfl | rfl <;> rfl

theorem exec_of_mem_formsEor (h : f ∈ formsEor s d8 a16) : exec f.1 s = .next (eorA f.2 s) := by
  simp only [formsEor, List.mem_cons, List.not_mem_nil, or_false] at h
  rcases h with rfl | rfl | rfl | rfl | rfl | rfl | rfl | rfl <;> rfl

theorem exec_of_mem_formsCmp (h : f ∈ formsCmp s d8 a16) : exec f.1 s = .next (compareA f.2 s) := by
  simp only [formsCmp, List.mem_cons, List.not_mem_nil, or_false] at h
  rcases h with rfl | rfl | rfl | rfl | rfl | rfl | rfl | rfl <;> rfl

theorem exec_of_mem_formsCpx (h : f ∈ formsCpx s d8 a16) : exec f.1 s = .next (compareX f.2 s) := by
  simp only [formsCpx, List.mem_cons, List.not_mem_nil, or_false] at h
  rcases h with rfl | rfl | rfl <;> rfl

theorem exec_of_mem_formsCpy (h : f ∈ formsCpy s d8 a16) : exec f.1 s = .next (compareY f.2 s) := by
  simp only [formsCpy, List.mem_cons, List.not_mem_nil, or_false] at h
  rcases h with rfl | rfl | rfl <;> rfl

theorem exec_of_mem_formsBit (h : f ∈ formsBit s d8 a16) : exec f.1 s = .next (bitTest f.2 s) := by
  simp only [formsBit, List.mem_cons, List.not_mem_nil, or_false] at h
  rcases h with rfl | rfl <;> rfl

end

/-! ### The forms of INC and DEC -/

section
variable {f : Instr × MemOperand} (s : State)

theorem exec_of_mem_formsInc (h : f ∈ formsInc d8 a16) : exec f.1 s = .next (increment f.2 s) := by
  simp only [formsInc, List.mem_cons, List.not_mem_nil, or_false] at h
  rcases h with rfl | rfl | rfl | rfl <;> rfl

theorem exec_of_mem_formsDec (h : f ∈ formsDec d8 a16) : exec f.1 s = .next (decrement f.2 s) := by
  simp only [formsDec, List.mem_cons, List.not_mem_nil, or_false] at h
  rcases h with rfl | rfl | rfl | rfl <;> rfl

end

end

/-! ### The register forms of the increments and decrements -/

theorem exec_inx (s : State) : exec .inx s = .next (setNZ (s.x + 1) { s with x := s.x + 1 }) := rfl
theorem exec_iny (s : State) : exec .iny s = .next (setNZ (s.y + 1) { s with y := s.y + 1 }) := rfl
theorem exec_dex (s : State) : exec .dex s = .next (setNZ (s.x - 1) { s with x := s.x - 1 }) := rfl
theorem exec_dey (s : State) : exec .dey s = .next (setNZ (s.y - 1) { s with y := s.y - 1 }) := rfl

/-! ### The statements -/

/-- Settles O43: each form writes the bitwise result to A and sets N and Z from it. -/
theorem logicWritesAAndNZ : Obligations.LogicWritesAAndNZ := by
  refine ⟨fun _ _ _ => ⟨rfl, rfl, rfl⟩, fun s d8 a16 f => ⟨fun h => ?and, fun h => ?or, fun h => ?xor⟩⟩
  case and =>
    refine ⟨s.a &&& f.2, fun _ => BitVec.getLsbD_and, ?_⟩
    rw [exec_of_mem_formsAnd h, andA, setNZ_eq]
  case or =>
    refine ⟨s.a ||| f.2, fun _ => BitVec.getLsbD_or, ?_⟩
    rw [exec_of_mem_formsOra h, orA, setNZ_eq]
  case xor =>
    refine ⟨s.a ^^^ f.2, fun _ => BitVec.getLsbD_xor, ?_⟩
    rw [exec_of_mem_formsEor h, eorA, setNZ_eq]

/-- Settles O44: each form is the comparison of R179 with its register. -/
theorem comparesSetCZN : Obligations.ComparesSetCZN := by
  refine ⟨fun _ _ _ => ⟨rfl, rfl, rfl⟩, fun s d8 a16 f => ⟨fun h => ?cmp, fun h => ?cpx, fun h => ?cpy⟩⟩
  case cmp => rw [exec_of_mem_formsCmp h, compareA, Flags.compare_eq]
  case cpx => rw [exec_of_mem_formsCpx h, compareX, Flags.compare_eq]
  case cpy => rw [exec_of_mem_formsCpy h, compareY, Flags.compare_eq]

/-- Two bytes share no set bit exactly when their bitwise and is zero. -/
theorem and_beq_zero (a m : Byte) :
    (a &&& m == 0) = decide (∀ k : Fin 8, (a.getLsbD k.val && m.getLsbD k.val) = false) := by
  rw [beq_eq_decide, decide_eq_decide, BitVec.eq_of_getLsbD_eq_iff, Fin.forall_iff]
  simp only [BitVec.getLsbD_and, BitVec.ofNat_eq_ofNat, BitVec.getLsbD_zero]

/-- Settles O45: Z is the test of the bitwise and, N and V are bits of the operand. -/
theorem bitTestsMemoryAgainstA : Obligations.BitTestsMemoryAgainstA := by
  refine ⟨fun _ _ _ => rfl, fun s d8 a16 f h => ?_⟩
  rw [exec_of_mem_formsBit h, bitTest, and_beq_zero]

/-- Settles O46: each form is one bus write of the byte read plus or minus one, which leaves the flags, and then N and
Z of that byte. -/
theorem incDecMemoryWrapAndSetNZ : Obligations.IncDecMemoryWrapAndSetNZ := by
  refine ⟨fun _ _ => ⟨rfl, rfl⟩, fun s d8 a16 f => ⟨fun h => ?inc, fun h => ?dec⟩⟩
  case inc => rw [exec_of_mem_formsInc s h, increment, setNZ_eq, readOperand, add_one_eq_ofNat_toNat, memWrite_p]
  case dec => rw [exec_of_mem_formsDec s h, decrement, setNZ_eq, readOperand, sub_one_eq_ofNat_toNat, memWrite_p]

/-- Settles O47: each writes its register plus or minus one, and N and Z of that byte. -/
theorem indexIncDecWrapAndSetNZ : Obligations.IndexIncDecWrapAndSetNZ := by
  refine ⟨rfl, fun s => ⟨?inx, ?iny, ?dex, ?dey⟩⟩
  case inx => rw [exec_inx, setNZ_eq, add_one_eq_ofNat_toNat]
  case iny => rw [exec_iny, setNZ_eq, add_one_eq_ofNat_toNat]
  case dex => rw [exec_dex, setNZ_eq, sub_one_eq_ofNat_toNat]
  case dey => rw [exec_dey, setNZ_eq, sub_one_eq_ofNat_toNat]

end Sys2Proof.Machine
end

section
/-! SUPPORT. Shifts and rotates (spec/43_shift_rotate.md R200 to R204): the four operations in exact arithmetic, and
each form as one of them, on A or at the form's address, with N, Z and C of what it yields. -/

namespace Sys2Proof.Machine

/-! ### The four operations in exact arithmetic -/

theorem getLsbD_seven_eq_decide (v : Byte) : v.getLsbD 7 = decide (128 ≤ v.toNat) :=
  (BitVec.msb_eq_getLsbD_last v).symm.trans (BitVec.msb_eq_decide v)

theorem getLsbD_zero_eq_decide (v : Byte) : v.getLsbD 0 = decide (v.toNat % 2 = 1) := Nat.testBit_zero v.toNat

theorem shiftLeft_one_toNat (v : Byte) : (v <<< 1).toNat = v.toNat * 2 % 256 := by
  rw [BitVec.toNat_shiftLeft, Nat.shiftLeft_eq]

theorem ushiftRight_one_toNat (v : Byte) : (v >>> 1).toNat = v.toNat / 2 := by
  rw [BitVec.toNat_ushiftRight, Nat.shiftRight_eq_div_pow]

/-- A carry that enters at a clear bit of `r` is added to `r`. -/
theorem or_carry_eq_ofNat_add {r bit : Byte} (hclear : r &&& bit = 0#8) (c : Bool) :
    r ||| (if c then bit else 0x00#8) = BitVec.ofNat 8 (r.toNat + c.toNat * bit.toNat) := by
  cases c
  case false => simp
  case true =>
    rw [if_pos rfl, ← BitVec.add_eq_or_of_and_eq_zero _ _ hclear, BitVec.ofNat_add]
    simp

theorem shiftLeft_one_and_0x01 (v : Byte) : v <<< 1 &&& 0x01#8 = 0#8 := by
  have hbit : 0x01#8 = BitVec.twoPow 8 0 := rfl
  rw [hbit, BitVec.and_twoPow]
  simp

theorem ushiftRight_one_and_0x80 (v : Byte) : v >>> 1 &&& 0x80#8 = 0#8 := by
  have hbit : 0x80#8 = BitVec.twoPow 8 7 := rfl
  rw [hbit, BitVec.and_twoPow]
  simp

/-- R201 in exact arithmetic. -/
theorem aslOp_eq_aslSpec : aslOp = aslSpec := by
  funext v c
  have hr : v <<< 1 = BitVec.ofNat 8 (v.toNat * 2) := by bv_omega
  rw [aslOp, aslSpec, hr, getLsbD_seven_eq_decide]

/-- R202 in exact arithmetic. -/
theorem lsrOp_eq_lsrSpec : lsrOp = lsrSpec := by
  funext v c
  have hr : v >>> 1 = BitVec.ofNat 8 (v.toNat / 2) := by bv_omega
  rw [lsrOp, lsrSpec, hr, getLsbD_zero_eq_decide]

/-- R203 in exact arithmetic. -/
theorem rolOp_eq_rolSpec : rolOp = rolSpec := by
  funext v c
  have hr : v <<< 1 ||| (if c then 0x01#8 else 0x00#8) = BitVec.ofNat 8 (v.toNat * 2 % 256 + c.toNat) := by
    rw [or_carry_eq_ofNat_add (shiftLeft_one_and_0x01 v), shiftLeft_one_toNat]
    simp
  rw [rolOp, rolSpec, hr, getLsbD_seven_eq_decide]

/-- R204 in exact arithmetic. -/
theorem rorOp_eq_rorSpec : rorOp = rorSpec := by
  funext v c
  have hr : v >>> 1 ||| (if c then 0x80#8 else 0x00#8) = BitVec.ofNat 8 (v.toNat / 2 + c.toNat * 128) := by
    rw [or_carry_eq_ofNat_add (ushiftRight_one_and_0x80 v), ushiftRight_one_toNat]
    simp
  rw [rorOp, rorSpec, hr, getLsbD_zero_eq_decide]

/-! ### The forms -/

/-- N, Z and C as R200 and R31 say them of the result: its bit 7, whether it is zero, and the bit shifted out. -/
theorem setShiftFlags_eq (k : Byte × Bool) (s : State) :
    setShiftFlags k s = { s with p := { s.p with n := k.1.getLsbD 7, z := decide (k.1 = 0), c := k.2 } } := by
  rw [setShiftFlags, Flags.withNZ, beq_eq_decide, BitVec.msb_eq_getLsbD_last]

theorem shiftA_eq (op : ShiftOp) (s : State) :
    shiftA op s = { s with
      a := (op s.a s.p.c).1
      p := { s.p with
        n := (op s.a s.p.c).1.getLsbD 7
        z := decide ((op s.a s.p.c).1 = 0)
        c := (op s.a s.p.c).2 } } := by
  rw [shiftA, setShiftFlags_eq]

/-- A memory form is one bus write at the address it read, which leaves the flags, and then N, Z and C (R200). -/
theorem shiftAt_eq (op : ShiftOp) (o : MemOperand) (s : State) :
    let k := op (memRead s (ea s o)) s.p.c
    shiftAt op o s = { memWrite s (ea s o) k.1 with
      p := { s.p with n := k.1.getLsbD 7, z := decide (k.1 = 0), c := k.2 } } := by
  rw [shiftAt, setShiftFlags_eq, memWrite_p, readOperand]

theorem exec_aslAcc (s : State) : exec .aslAcc s = .next (shiftA aslOp s) := rfl
theorem exec_lsrAcc (s : State) : exec .lsrAcc s = .next (shiftA lsrOp s) := rfl
theorem exec_rolAcc (s : State) : exec .rolAcc s = .next (shiftA rolOp s) := rfl
theorem exec_rorAcc (s : State) : exec .rorAcc s = .next (shiftA rorOp s) := rfl

section
variable {d8 : Byte} {a16 : Addr} {f : Instr × MemOperand} (s : State)

theorem exec_of_mem_formsAsl (h : f ∈ formsAsl d8 a16) : exec f.1 s = .next (shiftAt aslOp f.2 s) := by
  simp only [formsAsl, List.mem_cons, List.not_mem_nil, or_false] at h
  rcases h with rfl | rfl | rfl | rfl <;> rfl

theorem exec_of_mem_formsLsr (h : f ∈ formsLsr d8 a16) : exec f.1 s = .next (shiftAt lsrOp f.2 s) := by
  simp only [formsLsr, List.mem_cons, List.not_mem_nil, or_false] at h
  rcases h with rfl | rfl | rfl | rfl <;> rfl

theorem exec_of_mem_formsRol (h : f ∈ formsRol d8 a16) : exec f.1 s = .next (shiftAt rolOp f.2 s) := by
  simp only [formsRol, List.mem_cons, List.not_mem_nil, or_false] at h
  rcases h with rfl | rfl | rfl | rfl <;> rfl

theorem exec_of_mem_formsRor (h : f ∈ formsRor d8 a16) : exec f.1 s = .next (shiftAt rorOp f.2 s) := by
  simp only [formsRor, List.mem_cons, List.not_mem_nil, or_false] at h
  rcases h with rfl | rfl | rfl | rfl <;> rfl

end

/-- Settles O48: each form is its operation, which is the exact arithmetic of its rule, on A or at the form's address,
with N, Z and C of what it yields. -/
theorem shiftsFollowTheirRules : Obligations.ShiftsFollowTheirRules := by
  refine ⟨fun _ _ => ⟨rfl, rfl, rfl, rfl, rfl, rfl, rfl, rfl⟩, fun s => ⟨?aslAcc, ?lsrAcc, ?rolAcc, ?rorAcc⟩,
    fun s d8 a16 f => ⟨fun h => ?asl, fun h => ?lsr, fun h => ?rol, fun h => ?ror⟩⟩
  case aslAcc => rw [exec_aslAcc, shiftA_eq, aslOp_eq_aslSpec]
  case lsrAcc => rw [exec_lsrAcc, shiftA_eq, lsrOp_eq_lsrSpec]
  case rolAcc => rw [exec_rolAcc, shiftA_eq, rolOp_eq_rolSpec]
  case rorAcc => rw [exec_rorAcc, shiftA_eq, rorOp_eq_rorSpec]
  case asl => rw [exec_of_mem_formsAsl s h, shiftAt_eq, aslOp_eq_aslSpec]
  case lsr => rw [exec_of_mem_formsLsr s h, shiftAt_eq, lsrOp_eq_lsrSpec]
  case rol => rw [exec_of_mem_formsRol s h, shiftAt_eq, rolOp_eq_rolSpec]
  case ror => rw [exec_of_mem_formsRor s h, shiftAt_eq, rorOp_eq_rorSpec]

end Sys2Proof.Machine
end

section
/-! SUPPORT. Subroutines and branches (spec/44_control_flow.md R212 to R223): a word pushed in closed form and what it
leaves on a stack in RAM, RTS as one change of SP and PC, and each branch as `branch` of its condition. -/

namespace Sys2Proof.Machine

/-! ### A word on the stack -/

/-- A pushed word is two bus writes, high byte first and low byte below it, with SP lower by 2 (R160, R70). -/
theorem pushWord_eq (w : Addr) (s : State) :
    let s1 := memWrite s (0x0100 + zext s.sp) (hiByte w)
    let s2 := memWrite s1 (0x0100 + zext (s.sp - 1)) (loByte w)
    pushWord w s = { s2 with sp := s.sp - 2 } := by
  have hsp : s.sp - 1 - 1 = s.sp - 2 := by bv_omega
  intro s1 s2
  rw [pushWord, push_eq (hiByte w), push_eq, memWrite_with_sp, hsp]

theorem pushWord_sp (w : Addr) (s : State) : (pushWord w s).sp = s.sp - 2 := (pushFrame_pushWord w s).sp

theorem stackAddr_sub_one_ne (sp : Byte) : stackAddr sp ≠ stackAddr (sp - 1) := by
  have hsp := stackAddr_toNat sp
  have hsp' := stackAddr_toNat (sp - 1)
  bv_omega

section
variable {s : State} (w : Addr) (hwf : s.mem.wf = true) (hstack : StackIsRam s)
include hwf hstack

/-- The second byte pushed, on top. -/
theorem memRead_pushWord_lo : memRead (pushWord w s) (stackAddr (s.sp - 1)) = loByte w := by
  have hwf' : (push (hiByte w) s).mem.wf = true := memWrite_wf _ _ hwf
  have hram : busTarget (push (hiByte w) s) (stackAddr (s.sp - 1)) = .ram := by
    rw [busTarget_congr (push_config _ _), hstack]
  exact memRead_push_self (loByte w) hwf' hram

/-- The first byte pushed, which the second leaves alone. -/
theorem memRead_pushWord_hi : memRead (pushWord w s) (stackAddr s.sp) = hiByte w := by
  have hmem : isMemory (push (hiByte w) s) (stackAddr s.sp) = true := by
    rw [isMemory_congr (push_config _ _), isMemory_of_ram (hstack _)]
  rw [pushWord, memRead_push_of_ne (loByte w) (stackAddr_sub_one_ne s.sp) hmem, memRead_push_self _ hwf (hstack _)]

end

/-! ### Call and return -/

theorem exec_jsr (a16 : Addr) (s : State) : exec (.jsr a16) s = .next { pushWord (s.pc - 1) s with pc := a16 } := rfl

/-- RTS changes SP and PC only: the word pulled, low byte first, plus one (R213). -/
theorem exec_rts (s : State) : exec .rts s = .next { s with
    sp := s.sp + 2
    pc := wordOf (memRead s (stackAddr (s.sp + 2))) (memRead s (stackAddr (s.sp + 1))) + 1 } := by
  have hsp : s.sp + 1 + 1 = s.sp + 2 := by bv_omega
  rw [← hsp]
  rfl

theorem sub_one_eq_ofNat (w : Addr) : w - 1 = BitVec.ofNat 16 (w.toNat + 65535) := by bv_omega

theorem wordOf_add_one_eq_ofNat (hi lo : Byte) :
    wordOf hi lo + 1 = BitVec.ofNat 16 (hi.toNat * 256 + lo.toNat + 1) := by
  have hword := wordOf_toNat hi lo
  bv_omega

/-- Settles O50: JSR is one pushed word and a jump, RTS one word pulled. -/
theorem callAndReturnUseTheStack : Obligations.CallAndReturnUseTheStack := by
  refine ⟨rfl, fun s a16 => ⟨?jsr, ?rts⟩⟩
  case jsr => rw [exec_jsr, pushWord_eq, sub_one_eq_ofNat]
  case rts => rw [exec_rts, wordOf_add_one_eq_ofNat, stackAddr_eq, stackAddr_eq]

/-- Settles O30: RTS pulls the two bytes JSR pushed, which are those of PC - 1, and adds the one back. -/
theorem rtsUndoesJsr : Obligations.RtsUndoesJsr := by
  intro s a16 hwf hstack
  refine ⟨_, exec_jsr a16 s, rfl, pushWord_sp _ s, fun u hsp hbytes => ?_⟩
  have hsp1 : u.sp + 1 = s.sp - 1 := by rw [hsp, pushWord_sp]; bv_omega
  have hsp2 : u.sp + 2 = s.sp := by rw [hsp, pushWord_sp, BitVec.sub_add_cancel]
  have hhi : memRead u (stackAddr s.sp) = hiByte (s.pc - 1) :=
    (hbytes s.sp (by simp)).trans (memRead_pushWord_hi _ hwf hstack)
  have hlo : memRead u (stackAddr (s.sp - 1)) = loByte (s.pc - 1) :=
    (hbytes (s.sp - 1) (by simp)).trans (memRead_pushWord_lo _ hwf hstack)
  rw [exec_rts, hsp1, hsp2, hhi, hlo, wordOf_hi_lo, BitVec.sub_add_cancel]

/-! ### Branches -/

/-- Adding the sign-extended offset, in exact arithmetic (R214). -/
theorem add_sext_eq_ofInt (pc : Addr) (rel : Byte) :
    pc + sext rel = BitVec.ofInt 16 (((pc.toNat : Int) + rel.toInt) % 65536) := by
  have hmod : BitVec.ofInt 16 (((pc.toNat : Int) + rel.toInt) % 65536) = BitVec.ofInt 16 (pc.toNat + rel.toInt) :=
    BitVec.eq_of_toInt_eq (by rw [BitVec.toInt_ofInt, BitVec.toInt_ofInt]; exact Int.emod_bmod _ 65536)
  rw [hmod, BitVec.ofInt_add, BitVec.ofInt_natCast, BitVec.ofNat_toNat, BitVec.setWidth_eq]
  rfl

/-- Where a branch goes (R214). -/
theorem branch_pc (cond : BranchCond) (rel : Byte) (s : State) :
    (branch cond rel s).pc = if branchHolds s.p cond then s.pc + sext rel else s.pc := by
  rw [branch]
  split <;> rfl

/-- Each branch of the table is `branch` of a condition that holds as the table says (R215 to R222). -/
theorem exec_of_mem_branchTable {s : State} {rel : Byte} {f : Instr × Bool} (h : f ∈ branchTable s.p rel) :
    ∃ cond, exec f.1 s = .next (branch cond rel s) ∧ branchHolds s.p cond = f.2 := by
  simp only [branchTable, beq_true, beq_false, List.mem_cons, List.not_mem_nil, or_false] at h
  rcases h with rfl | rfl | rfl | rfl | rfl | rfl | rfl | rfl
  · exact ⟨.cc, rfl, rfl⟩
  · exact ⟨.cs, rfl, rfl⟩
  · exact ⟨.eq, rfl, rfl⟩
  · exact ⟨.ne, rfl, rfl⟩
  · exact ⟨.mi, rfl, rfl⟩
  · exact ⟨.pl, rfl, rfl⟩
  · exact ⟨.vc, rfl, rfl⟩
  · exact ⟨.vs, rfl, rfl⟩

/-- Settles O51: each form is `branch` of its condition, and the target is a sum modulo 65536. -/
theorem branchesGoWhenTheirFlagSaysSo : Obligations.BranchesGoWhenTheirFlagSaysSo := by
  refine ⟨rfl, fun s rel f hf => ?_⟩
  obtain ⟨cond, hexec, hcond⟩ := exec_of_mem_branchTable hf
  rw [hexec, branch_eq, branch_pc, hcond, add_sext_eq_ofInt]

end Sys2Proof.Machine
end

section
/-! SUPPORT. Flag instructions, BRK and RTI (spec/45_flags_system.md R231 to R240): RTI as one change of SP, P and PC,
and the three bytes that an interrupt entry leaves on a stack in RAM. -/

namespace Sys2Proof.Machine

/-! ### One flag, or nothing -/

/-- Settles O52: each instruction is one assignment to its flag, and NOP is none. -/
theorem flagInstructionsWriteOneFlag : Obligations.FlagInstructionsWriteOneFlag :=
  ⟨rfl, fun _ => ⟨rfl, rfl, rfl, rfl, rfl, rfl, rfl, rfl⟩⟩

/-! ### The software interrupt and the return -/

theorem exec_brk (s : State) : exec .brk s = .next (takeException (s.pc + 1) true Config.vecIrq s) := rfl

/-- Settles O53: BRK is the shared entry sequence, with PC + 1 as its return address. -/
theorem brkTakesTheSoftwareInterrupt : Obligations.BrkTakesTheSoftwareInterrupt := by
  refine ⟨rfl, fun s => ?_⟩
  have hret : s.pc + 1 = BitVec.ofNat 16 (s.pc.toNat + 1) := by bv_omega
  rw [exec_brk, takeException_eq, hret]
  rfl

/-- RTI changes SP, P and PC only: the status byte pulled, then the word above it, with no one added (R239). -/
theorem exec_rti (s : State) : exec .rti s = .next { s with
    sp := s.sp + 3
    p := Flags.ofByte (memRead s (stackAddr (s.sp + 1)))
    pc := wordOf (memRead s (stackAddr (s.sp + 3))) (memRead s (stackAddr (s.sp + 2))) } := by
  have hsp2 : s.sp + 1 + 1 = s.sp + 2 := by bv_omega
  have hsp3 : s.sp + 2 + 1 = s.sp + 3 := by bv_omega
  rw [← hsp3, ← hsp2, ← returnFromException_eq]
  rfl

/-- Settles O54: RTI pulls a byte of flags and a word, whose bytes are those at $0100 + SP + 1 to SP + 3. -/
theorem rtiPullsStatusAndPc : Obligations.RtiPullsStatusAndPc := by
  refine ⟨rfl, fun s => ?_⟩
  rw [exec_rti]
  simp only [stackAddr_eq]
  rfl

/-! ### What an interrupt entry leaves on the stack -/

/-- The byte image of P keeps every flag, whatever its break bit is (R25, R27). -/
theorem Flags.ofByte_toByte (p : Flags) (b : Bool) : Flags.ofByte (p.toByte b) = p := by
  simp only [Flags.ofByte, Flags.toByte_getLsbD]

theorem stackAddr_ne_of_ne {sp sp' : Byte} (h : sp ≠ sp') : stackAddr sp ≠ stackAddr sp' := by
  have hsp := stackAddr_toNat sp
  have hsp' := stackAddr_toNat sp'
  bv_omega

theorem interruptEntry_sp (kind : IntClass) (s : State) : (interruptEntry kind s).sp = s.sp - 3 := by
  cases kind
  case nmi => exact (pushFrame_takeException s.pc false Config.vecNmi s).sp
  case irq => exact (pushFrame_takeException s.pc false Config.vecIrq s).sp

/-- The acknowledgement of an NMI changes the interrupt controller only, so no byte of RAM or ROM (R272). -/
theorem memRead_nmiAcknowledge {s : State} {a : Addr} (ha : isMemory s a = true) :
    memRead (nmiAcknowledge s) a = memRead s a := by
  have ha' : isMemory (nmiAcknowledge s) a = true := ha
  rw [memRead_of_isMemory ha', memRead_of_isMemory ha, nmiAcknowledge_mem]

theorem memRead_takeException (ret : Addr) (b : Bool) (vector : Addr) (s : State) (a : Addr) :
    memRead (takeException ret b vector s) a = memRead (push (s.p.toByte b) (pushWord ret s)) a := by
  have hp : (pushWord ret s).p = s.p := by simp [pushWord]
  rw [← hp]
  rfl

/-- In RAM and ROM an entry is its three pushes. -/
theorem memRead_interruptEntry_of_isMemory (kind : IntClass) {s : State} {a : Addr} (ha : isMemory s a = true) :
    memRead (interruptEntry kind s) a = memRead (push (s.p.toByte false) (pushWord s.pc s)) a := by
  cases kind
  case irq => exact memRead_takeException _ _ _ s a
  case nmi =>
    have hmem : isMemory (takeException s.pc false Config.vecNmi s) a = true := by
      rw [isMemory_congr (takeException_config _ _ _ _), ha]
    rw [interruptEntry, memRead_nmiAcknowledge hmem, memRead_takeException]

/-- The status byte leaves the rest of the stack page as the pushed PC left it. -/
theorem memRead_interruptEntry_of_ne (kind : IntClass) {s : State} {sp : Byte} (hstack : StackIsRam s)
    (hne : sp ≠ s.sp - 2) :
    memRead (interruptEntry kind s) (stackAddr sp) = memRead (pushWord s.pc s) (stackAddr sp) := by
  have hmem : isMemory s (stackAddr sp) = true := isMemory_of_ram (hstack sp)
  have hmem' : isMemory (pushWord s.pc s) (stackAddr sp) = true := by
    rw [isMemory_congr (pushFrame_pushWord s.pc s).config, hmem]
  rw [← pushWord_sp s.pc] at hne
  rw [memRead_interruptEntry_of_isMemory kind hmem, memRead_push_of_ne _ (stackAddr_ne_of_ne hne) hmem']

section
variable (kind : IntClass) {s : State} (hwf : s.mem.wf = true) (hstack : StackIsRam s)
include hwf hstack

/-- The third byte pushed, on top. -/
theorem memRead_interruptEntry_status :
    memRead (interruptEntry kind s) (stackAddr (s.sp - 2)) = s.p.toByte false := by
  have hwf' : (pushWord s.pc s).mem.wf = true := memWrite_wf _ _ (memWrite_wf _ _ hwf)
  have hram : busTarget (pushWord s.pc s) (stackAddr (pushWord s.pc s).sp) = .ram := by
    rw [busTarget_congr (pushFrame_pushWord s.pc s).config, hstack]
  rw [memRead_interruptEntry_of_isMemory kind (isMemory_of_ram (hstack _)), ← pushWord_sp s.pc,
    memRead_push_self _ hwf' hram]

theorem memRead_interruptEntry_pcLo :
    memRead (interruptEntry kind s) (stackAddr (s.sp - 1)) = loByte s.pc := by
  rw [memRead_interruptEntry_of_ne kind hstack (by bv_omega), memRead_pushWord_lo _ hwf hstack]

theorem memRead_interruptEntry_pcHi : memRead (interruptEntry kind s) (stackAddr s.sp) = hiByte s.pc := by
  rw [memRead_interruptEntry_of_ne kind hstack (by bv_omega), memRead_pushWord_hi _ hwf hstack]

end

/-- Settles O29: RTI pulls the three bytes that the entry pushed, which are the status and PC of `s`. -/
theorem rtiUndoesInterruptEntry : Obligations.RtiUndoesInterruptEntry := by
  intro kind s u hwf hstack hsp hbytes
  rw [interruptEntry_sp] at hsp
  have hsp1 : u.sp + 1 = s.sp - 2 := by rw [hsp]; bv_omega
  have hsp2 : u.sp + 2 = s.sp - 1 := by rw [hsp]; bv_omega
  have hsp3 : u.sp + 3 = s.sp := by rw [hsp, BitVec.sub_add_cancel]
  have hstatus : memRead u (stackAddr (s.sp - 2)) = s.p.toByte false :=
    (hbytes (s.sp - 2) (by simp)).trans (memRead_interruptEntry_status kind hwf hstack)
  have hlo : memRead u (stackAddr (s.sp - 1)) = loByte s.pc :=
    (hbytes (s.sp - 1) (by simp)).trans (memRead_interruptEntry_pcLo kind hwf hstack)
  have hhi : memRead u (stackAddr s.sp) = hiByte s.pc :=
    (hbytes s.sp (by simp)).trans (memRead_interruptEntry_pcHi kind hwf hstack)
  rw [exec_rti, hsp1, hsp2, hsp3, hstatus, hlo, hhi, Flags.ofByte_toByte, wordOf_hi_lo]

end Sys2Proof.Machine
end

section
/-! SUPPORT. The registers of the keyboard (spec/60_exceptions.md R291 to R297, R305): what a write stores and a read
shows, the selected key in the port's bit 7, and the interrupt line. -/

namespace Sys2Proof.Machine

/-! ### The key grid -/

theorem keyDown_of_lt {m : KeyMatrix} {r c : Nat} (hr : r < 7) (hc : c < 10) : keyDown m r c = m[r][c] := by
  simp [keyDown, hr, hc]

theorem keyDown_of_outside {m : KeyMatrix} {r c : Nat} (h : 7 ≤ r ∨ 10 ≤ c) : keyDown m r c = false := by
  unfold keyDown
  split
  · exact dif_neg (by omega)
  · rfl

theorem rowHasKey_iff {m : KeyMatrix} {r : Fin 7} :
    rowHasKey m r = true ↔ ∃ c, c < 10 ∧ keyDown m r.val c = true := by
  have hkey : ∀ c (hc : c < 10), keyDown m r.val c = m[r][c] := fun c hc => keyDown_of_lt r.isLt hc
  simp only [rowHasKey, List.any_eq_true, id, exists_eq_right, Vector.mem_toList_iff, Vector.mem_iff_getElem]
  exact ⟨fun ⟨c, hc, h⟩ => ⟨c, hc, by rw [hkey c hc, h]⟩, fun ⟨c, hc, h⟩ => ⟨c, hc, by rw [← hkey c hc, h]⟩⟩

/-! ### The port -/

theorem scanMode_iff {k : Keyboard} : scanMode k = true ↔ k.ddrA = 0x7F := beq_iff_eq

/-- `ora[6:4]` of R293 in exact arithmetic. -/
theorem toNat_selectedRow (b : Byte) : (b.extractLsb' 4 3).toNat = b.toNat / 16 % 8 := by
  simp [Nat.shiftRight_eq_div_pow]

/-- `ora[3:0]` of R293 in exact arithmetic. -/
theorem toNat_selectedColumn (b : Byte) : (b.extractLsb' 0 4).toNat = b.toNat % 16 := by simp

/-- The bits of a byte with its top bit replaced. -/
theorem getLsbD_replace_top (b : Byte) (top : Bool) {k : Nat} (hk : k < 8) :
    (b &&& 0x7F#8 ||| if top = true then 0x80#8 else 0x00#8).getLsbD k = if k = 7 then top else b.getLsbD k := by
  have hlow : ∀ k : Fin 8, (0x7F#8).getLsbD k = decide (k.val ≠ 7) := by decide
  have htop : ∀ k : Fin 8, (0x80#8).getLsbD k = decide (k.val = 7) := by decide
  cases top <;> by_cases h7 : k = 7 <;> simp [BitVec.getLsbD_or, hlow ⟨k, hk⟩, htop ⟨k, hk⟩, h7]

theorem kbdPortRead_getLsbD (s : State) {k : Nat} (hk : k < 8) :
    (kbdPortRead s).getLsbD k =
      if k = 7 ∧ s.kbd.ddrA = 0x7F then keyDown s.matrix (s.kbd.ora.toNat / 16 % 8) (s.kbd.ora.toNat % 16)
      else s.kbd.ora.getLsbD k := by
  simp only [kbdPortRead, scanMode_iff, toNat_selectedRow, toNat_selectedColumn]
  split
  case isTrue hscan =>
    rw [getLsbD_replace_top _ _ hk]
    simp only [hscan, and_true]
  case isFalse hscan => rw [if_neg fun h => hscan h.2]

/-- Settles O10, from the bits of the port's byte and from what the grid says of a position. -/
theorem keyboardPortShowsTheSelectedKey : Obligations.KeyboardPortShowsTheSelectedKey := by
  intro s a h
  have hread : memRead s a = kbdPortRead s := by simp [memRead, h]
  rw [hread]
  refine ⟨fun k hk => ?_, ?_, fun _ _ => keyDown_of_lt, fun _ _ => keyDown_of_outside, fun _ => rowHasKey_iff⟩
  · rw [kbdPortRead_getLsbD s (by omega), if_neg (by omega)]
  · rw [kbdPortRead_getLsbD s (by omega)]
    simp

/-! ### The four registers -/

section
variable {s : State} {a : Addr}

theorem memWrite_of_kbdPort (v : Byte) (h : busTarget s a = .kbdPort) :
    memWrite s a v = { s with kbd := { s.kbd with ora := v } } := by simp [memWrite, h]

theorem memWrite_of_kbdDdr (v : Byte) (h : busTarget s a = .kbdDdr) :
    memWrite s a v = { s with kbd := { s.kbd with ddrA := v } } := by simp [memWrite, h]

theorem memRead_of_kbdDdr (h : busTarget s a = .kbdDdr) : memRead s a = s.kbd.ddrA := by simp [memRead, h]

theorem memWrite_of_kbdCtrlDdr (v : Byte) (h : busTarget s a = .kbdCtrlDdr) :
    memWrite s a v = { s with kbd := { s.kbd with ddrB := v } } := by simp [memWrite, h]

theorem memRead_of_kbdCtrlDdr (h : busTarget s a = .kbdCtrlDdr) : memRead s a = s.kbd.ddrB := by simp [memRead, h]

theorem memWrite_of_kbdCtrl (v : Byte) (h : busTarget s a = .kbdCtrl) : memWrite s a v = kbdCtrlWrite v s := by
  simp [memWrite, h]

theorem memRead_of_kbdCtrl (h : busTarget s a = .kbdCtrl) : memRead s a = s.kbd.orb := by simp [memRead, h]

end

section
variable {s : State} {v : Byte}

theorem kbdCtrlWrite_of_enable (h : v = s.config.kbdEnablePattern) :
    kbdCtrlWrite v s = { s with kbd := { s.kbd with orb := v, we := true } } := by
  simp only [kbdCtrlWrite, if_pos h]

theorem kbdCtrlWrite_of_disable (h : v ≠ s.config.kbdEnablePattern) (hv : v = s.config.kbdDisablePattern) :
    kbdCtrlWrite v s = { s with kbd := { s.kbd with orb := v, we := false } } := by
  simp only [kbdCtrlWrite, if_neg h, if_pos hv]

theorem kbdCtrlWrite_of_other (h : v ≠ s.config.kbdEnablePattern) (hv : v ≠ s.config.kbdDisablePattern) :
    kbdCtrlWrite v s = { s with kbd := { s.kbd with orb := v } } := by
  simp only [kbdCtrlWrite, if_neg h, if_neg hv]

end

/-- Settles O11: each write stores into its register, and the bus map that finds the register for the read stays. -/
theorem keyboardRegistersStoreWhatIsWritten : Obligations.KeyboardRegistersStoreWhatIsWritten := by
  intro s a v
  have htarget : busTarget (memWrite s a v) a = busTarget s a := busTarget_congr (memWrite_config s a v) a
  refine ⟨memWrite_of_kbdPort v, fun h => ?ddr, fun h => ?ctrlDdr, fun h => ?ctrl⟩
  case ddr =>
    have hback : memRead (memWrite s a v) a = v := by
      rw [memRead_of_kbdDdr (htarget.trans h), memWrite_of_kbdDdr v h]
    exact ⟨memWrite_of_kbdDdr v h, memRead_of_kbdDdr h, hback⟩
  case ctrlDdr =>
    have hback : memRead (memWrite s a v) a = v := by
      rw [memRead_of_kbdCtrlDdr (htarget.trans h), memWrite_of_kbdCtrlDdr v h]
    exact ⟨memWrite_of_kbdCtrlDdr v h, memRead_of_kbdCtrlDdr h, hback⟩
  case ctrl =>
    have hwrite : memWrite s a v = kbdCtrlWrite v s := memWrite_of_kbdCtrl v h
    have hback : memRead (memWrite s a v) a = v := by
      rw [memRead_of_kbdCtrl (htarget.trans h), hwrite]
      rfl
    refine ⟨memRead_of_kbdCtrl h, hback, ?_⟩
    rw [hwrite]
    exact ⟨kbdCtrlWrite_of_enable, kbdCtrlWrite_of_disable, kbdCtrlWrite_of_other⟩

/-! ### The interrupt line -/

theorem keyboardLine_iff {s : State} : keyboardLine s = true ↔
    s.kbd.we = true ∧ ∃ c, c < 10 ∧ keyDown s.matrix s.kbd.scanRow.val c = true := by
  rw [keyboardLine, Bool.and_eq_true, rowHasKey_iff]

/-- Settles O12: the line looks at write-enable, the grid and the scan row only. -/
theorem keyboardLineNeedsEnableAndStrobedKey : Obligations.KeyboardLineNeedsEnableAndStrobedKey :=
  fun _ => ⟨keyboardLine_iff, fun hwe _ => by simp [keyboardLine, hwe], fun _ _ _ => rfl⟩

end Sys2Proof.Machine
end

section
/-! SUPPORT. The scan of the keyboard (spec/60_exceptions.md R300 to R302): the tick as an iterated advance, what the run
of a program does to the scan, and that the scan stops on a row with a key. -/

namespace Sys2Proof.Machine

/-! ### The tick -/

theorem scanAdvances_eq_iterate (m : KeyMatrix) : ∀ (k : Nat) (r : Fin 7), scanAdvances m k r = (scanAdvance m)^[k] r
  | 0, _ => rfl
  | k + 1, r => scanAdvances_eq_iterate m k (scanAdvance m r)

theorem scanAdvances_add (m : KeyMatrix) (j k : Nat) (r : Fin 7) :
    scanAdvances m (j + k) r = scanAdvances m j (scanAdvances m k r) := by
  simp only [scanAdvances_eq_iterate, Function.iterate_add_apply]

theorem deviceTick_of_enabled (n : Nat) {s : State} (h : s.kbd.we = true) :
    deviceTick n s = { s with kbd := { s.kbd with
      tick := (s.kbd.tick + n) % s.config.kbdTickInterval
      scanRow := scanAdvances s.matrix ((s.kbd.tick + n) / s.config.kbdTickInterval) s.kbd.scanRow } } := by
  simp [deviceTick, h]

theorem deviceTick_of_disabled (n : Nat) {s : State} (h : s.kbd.we = false) : deviceTick n s = s := by
  simp [deviceTick, h]

@[simp] theorem deviceTick_we (n : Nat) (s : State) : (deviceTick n s).kbd.we = s.kbd.we := by rw [deviceTick_eq]

/-- Settles O13: the model's count of advances is an iteration of the advance. -/
theorem deviceTickAdvancesTheScan : Obligations.DeviceTickAdvancesTheScan := by
  refine fun n s => ⟨deviceTick_of_disabled n, fun h => ?_, by decide⟩
  rw [deviceTick_of_enabled n h, scanAdvances_eq_iterate]
  rfl

/-- The cycles of two ticks may be given in one. -/
theorem deviceTick_deviceTick (c d : Nat) (s : State) : deviceTick d (deviceTick c s) = deviceTick (c + d) s := by
  cases h : s.kbd.we with
  | false => simp only [deviceTick_of_disabled _ h]
  | true =>
    have htick (x i : Nat) : (x % i + d) / i + x / i = (x + d) / i := by
      rcases Nat.eq_zero_or_pos i with rfl | hi
      · simp
      · rw [← Nat.add_mul_div_left _ _ hi, Nat.add_right_comm, Nat.mod_add_div]
    have h' : (deviceTick c s).kbd.we = true := by rw [deviceTick_we, h]
    rw [deviceTick_of_enabled d h', deviceTick_of_enabled c h, deviceTick_of_enabled _ h]
    simp only [← scanAdvances_add, htick, Nat.mod_add_mod, Nat.add_assoc]

/-! ### The cycles of an instruction -/

theorem two_le_cycles_of_mem_rowsOf (k : Nat) : ∀ r ∈ rowsOf k, 2 ≤ r.cycles := by
  unfold rowsOf
  split <;> simp

theorem cycles_le_rowCycles (s : State) (r : OpRow) (operands : List Byte) : r.cycles ≤ rowCycles s r operands := by
  unfold rowCycles branchCycles
  repeat' split
  all_goals omega

/-- Every instruction takes two cycles or more, because its row of the table counts that many (R360). -/
theorem two_le_cyclesOf (i : Instr) (s : State) : 2 ≤ cyclesOf i s := by
  obtain ⟨r, hfound, -⟩ := exists_row i
  have hrow : 2 ≤ r.cycles := two_le_cycles_of_mem_rowsOf _ r (List.mem_of_find?_eq_some hfound)
  simpa [cyclesOf, hfound] using hrow.trans (cycles_le_rowCycles s r i.operands)

/-! ### The scan along a run -/

/-- `t` has the scan of `s`, and what else decides how the scan goes on but write-enable: the configuration, the key grid
and the host's coming inputs. -/
structure SameScan (s t : State) : Prop where
  config : t.config = s.config
  matrix : t.matrix = s.matrix
  inputs : t.inputs = s.inputs
  scanRow : t.kbd.scanRow = s.kbd.scanRow
  tick : t.kbd.tick = s.kbd.tick

theorem SameScan.trans {s t u : State} (h : SameScan s t) (h' : SameScan t u) : SameScan s u where
  config := h'.config.trans h.config
  matrix := h'.matrix.trans h.matrix
  inputs := h'.inputs.trans h.inputs
  scanRow := h'.scanRow.trans h.scanRow
  tick := h'.tick.trans h.tick

/-- No program moves the scan: a bus write leaves it (R292, R295). -/
theorem sameScan_busProperty (s : State) : BusProperty (SameScan s) where
  same _ _ hs h := h.trans ⟨hs.config, hs.matrix, hs.inputs, by rw [hs.kbd], by rw [hs.kbd]⟩
  write _ _ _ h := h.trans ⟨by simp, by simp, by simp, by simp, by simp⟩

theorem sameScan_interruptEntry (kind : IntClass) (s : State) : SameScan s (interruptEntry kind s) := by
  have hentry (vector : Addr) : SameScan s (takeException s.pc false vector s) :=
    (sameScan_busProperty s).of_takeException _ _ _ ⟨rfl, rfl, rfl, rfl, rfl⟩
  cases kind
  case nmi => exact (hentry Config.vecNmi).trans ⟨rfl, rfl, rfl, rfl, rfl⟩
  case irq => exact hentry Config.vecIrq

/-- A tick moves equal scans alike, with write-enable alike. -/
theorem SameScan.deviceTick {s t : State} (h : SameScan s t) (hwe : t.kbd.we = s.kbd.we) (c : Nat) :
    SameScan (deviceTick c s) (deviceTick c t) := by
  cases hs : s.kbd.we with
  | false => rwa [deviceTick_of_disabled c hs, deviceTick_of_disabled c (hwe.trans hs)]
  | true =>
    rw [deviceTick_of_enabled c hs, deviceTick_of_enabled c (hwe.trans hs)]
    exact ⟨h.config, h.matrix, h.inputs, by simp [h.config, h.matrix, h.scanRow, h.tick], by simp [h.config, h.tick]⟩

/-- A step in which the host changes nothing leaves the scan to the tick at its end, of two cycles or more. -/
theorem step_sameScan {s t : State} (h : step s = .next t) (hin : s.inputs = []) :
    ∃ c u, 2 ≤ c ∧ SameScan s u ∧ t = finishStep c u := by
  obtain ⟨-, hcases⟩ := step_cases h
  rw [deliverInputs_nil hin] at hcases
  obtain ⟨kind, ht, -⟩ | ⟨i, u, -, -, hexec, ht⟩ := hcases
  · exact ⟨_, _, by decide, sameScan_interruptEntry kind s, ht⟩
  · have hadv : SameScan s (advance i s) := ⟨rfl, rfl, rfl, rfl, rfl⟩
    exact ⟨_, u, two_le_cyclesOf _ _, (sameScan_busProperty s).of_exec hexec hadv, ht⟩

/-- With write-enable set before and after it, such a step is one tick to the scan. -/
theorem step_scans {s t : State} (h : step s = .next t) (hin : s.inputs = []) (hs : s.kbd.we = true)
    (ht : t.kbd.we = true) : ∃ c, 2 ≤ c ∧ SameScan (deviceTick c s) t := by
  obtain ⟨c, u, hc, hsame, rfl⟩ := step_sameScan h hin
  have hwe : u.kbd.we = s.kbd.we := by simpa [finishStep, hs] using ht
  have hcounted : SameScan s { u with cycles := u.cycles + c } := hsame.trans ⟨rfl, rfl, rfl, rfl, rfl⟩
  exact ⟨c, hc, hcounted.deviceTick hwe c⟩

/-- Write-enable is set at each boundary of the run of `n` steps from `s`. -/
def EnabledAlong (n : Nat) (s : State) : Prop :=
  ∀ (k : Nat) (u : State), k ≤ n → core.run k s = .next u → u.kbd.we = true

theorem EnabledAlong.start {n : Nat} {s : State} (h : EnabledAlong n s) : s.kbd.we = true := h 0 s (Nat.zero_le n) rfl

theorem EnabledAlong.tail {n : Nat} {s u : State} (h : EnabledAlong (n + 1) s) (hstep : step s = .next u) :
    EnabledAlong n u :=
  fun k v hk hv => h (k + 1) v (Nat.succ_le_succ hk) (by rw [run_of_step hstep, hv])

/-- A run of steps with scanning enabled throughout is one tick to the scan too, of two cycles or more for each step. -/
theorem run_scans {n : Nat} {s t : State} (hrun : core.run (n + 1) s = .next t) (hin : s.inputs = [])
    (hwe : EnabledAlong (n + 1) s) : ∃ c, 2 * (n + 1) ≤ c ∧ SameScan (deviceTick c s) t := by
  induction n generalizing s with
  | zero =>
    obtain ⟨u, hstep, hu⟩ := run_succ_next hrun
    cases hu
    exact step_scans hstep hin hwe.start (hwe.tail hstep).start
  | succ n ih =>
    obtain ⟨u, hstep, hu⟩ := run_succ_next hrun
    have hweu : EnabledAlong (n + 1) u := hwe.tail hstep
    obtain ⟨c, hc, hsu⟩ := step_scans hstep hin hwe.start hweu.start
    have hinu : u.inputs = [] := by rw [hsu.inputs, deviceTick_inputs, hin]
    obtain ⟨d, hd, hut⟩ := ih hu hinu hweu
    have hcd : SameScan (deviceTick (c + d) s) (deviceTick d u) := by
      rw [← deviceTick_deviceTick]
      exact hsu.deviceTick (by rw [deviceTick_we, hwe.start, hweu.start]) d
    exact ⟨c + d, by omega, hcd.trans hut⟩

/-! ### The scan finds a key -/

theorem scanAdvances_of_rowHasKey {m : KeyMatrix} {r : Fin 7} (h : rowHasKey m r = true) (k : Nat) :
    scanAdvances m k r = r := by
  rw [scanAdvances_eq_iterate]
  exact Function.iterate_fixed (by simp [scanAdvance, h]) k

/-- As many advances as it is rows from `r` to a row with a key lead to one, and further ones stay there. -/
theorem rowHasKey_scanAdvances {m : KeyMatrix} {key : Fin 7} (hkey : rowHasKey m key = true) :
    ∀ {k : Nat} {r : Fin 7}, (key - r).val ≤ k → rowHasKey m (scanAdvances m k r) = true := by
  have hnext : ∀ key r : Fin 7, key ≠ r → (key - (r + 1)).val + 1 = (key - r).val := by decide
  intro k
  induction k with
  | zero =>
    intro r hr
    have : key = r := by omega
    rwa [← this]
  | succ k ih =>
    intro r hr
    cases h : rowHasKey m r with
    | true => rwa [scanAdvances_of_rowHasKey h]
    | false =>
      have hne : key ≠ r := by
        rintro rfl
        simp [h] at hkey
      have hstep : scanAdvances m (k + 1) r = scanAdvances m k (r + 1) := by simp [scanAdvances, scanAdvance, h]
      have := hnext key r hne
      rw [hstep]
      exact ih (by omega)

/-- Settles O14: the cycles of the run make seven advances or more, and a row with a key is at most six away. -/
theorem heldKeyRaisesTheKeyboardLine : Obligations.HeldKeyRaisesTheKeyboardLine := by
  rintro n s t hinterval hin ⟨key, hkey⟩ hwe hn hrun
  have henabled : EnabledAlong n s := fun k u hk hu => congrArg Keyboard.we (hwe k u hk hu)
  obtain ⟨n, rfl⟩ : ∃ n', n = n' + 1 := Nat.exists_eq_add_one.2 (by omega)
  obtain ⟨c, hc, hscan⟩ := run_scans hrun hin henabled
  have hadvances : 7 ≤ (s.kbd.tick + c) / s.config.kbdTickInterval := (Nat.le_div_iff_mul_le hinterval).2 (by omega)
  have hrow : rowHasKey s.matrix (deviceTick c s).kbd.scanRow = true := by
    rw [deviceTick_of_enabled c henabled.start]
    exact rowHasKey_scanAdvances hkey (by omega)
  have hwet : t.kbd.we = true := henabled _ t le_rfl hrun
  simp [keyboardLine, hwet, hscan.matrix, hscan.scanRow, hrow]

end Sys2Proof.Machine
end

section
/-! SUPPORT. The interrupt controller (spec/60_exceptions.md R271, R272, R284 to R287): which flags an acknowledgement
clears, what the status byte shows, and what an interrupt entry does. -/

namespace Sys2Proof.Machine

/-! ### Clearing flags -/

/-- What a clearing does to the flag of one extra source (R283). -/
theorem clearExtra_getElem? {which : ExtraSource → Bool} : ∀ {es : List ExtraSource} {fs : List Bool} {k : Nat}
    {e : ExtraSource} {f : Bool}, es[k]? = some e → fs[k]? = some f →
    (clearExtra which es fs)[k]? = some (f && !which e)
  | [], _, _, _, _, he, _ => by simp at he
  | _ :: _, [], _, _, _, _, hf => by simp at hf
  | _ :: _, _ :: _, 0, _, _, he, hf => by simp_all [clearExtra]
  | _ :: _, _ :: _, k + 1, _, _, he, hf => by
    simpa [clearExtra] using clearExtra_getElem? (k := k) (by simpa using he) (by simpa using hf)

theorem acknowledges_iff (v : Byte) (e : ExtraSource) :
    acknowledges v e = true ↔
      e.cls = .irq ∧ e.trigger = .edge ∧ ∃ b, e.ackBit = some b ∧ v.getLsbD b = true := by
  cases h : e.ackBit <;> simp [acknowledges, h, and_assoc]

theorem memWrite_of_icAck {s : State} {a : Addr} (v : Byte) (h : busTarget s a = .icAck) :
    memWrite s a v = icAckWrite v s := by
  simp [memWrite, h]

/-- Settles O15: the write clears `crtc` by its bit 1, and of the extra sources those it acknowledges. -/
theorem acknowledgeWriteClearsEdgeSources : Obligations.AcknowledgeWriteClearsEdgeSources := by
  intro s a v h t
  have ht : t = icAckWrite v s := memWrite_of_icAck v h
  rw [ht]
  refine ⟨rfl, rfl, clearExtra_length _ _ _, fun k e f he hf => ?_, rfl⟩
  have hextra : (icAckWrite v s).ic.extra[k]? = some (f && !acknowledges v e) := clearExtra_getElem? he hf
  rw [hextra, ← acknowledges_iff]
  exact ⟨fun hack => by simp [hack], fun hack => by simp [hack]⟩

/-! ### The status byte -/

/-- Some source of a list satisfies `P` and has its flag set. -/
theorem any_zip_iff {P : ExtraSource → Bool} {es : List ExtraSource} {fs : List Bool} :
    (es.zip fs).any (fun x => P x.1 && x.2) = true ↔
      ∃ (j : Nat) (e : ExtraSource), es[j]? = some e ∧ P e = true ∧ fs[j]? = some true := by
  simp only [List.any_eq_true, List.mem_iff_getElem?, Prod.exists, List.getElem?_zip_eq_some, Bool.and_eq_true]
  constructor
  · rintro ⟨e, _, ⟨j, he, hf⟩, hP, rfl⟩
    exact ⟨j, e, he, hP, hf⟩
  · rintro ⟨j, e, he, hP, hf⟩
    exact ⟨e, true, ⟨j, he, hf⟩, hP, rfl⟩

theorem extraPending_eq_any (cls : IntClass) : ∀ (es : List ExtraSource) (fs : List Bool),
    extraPending cls es fs = (es.zip fs).any fun x => x.1.cls == cls && x.2
  | [], _ => rfl
  | _ :: _, [] => rfl
  | _ :: es, _ :: fs => by simp [extraPending, extraPending_eq_any cls es fs]

theorem extraBit_eq_any (k : Nat) : ∀ (es : List ExtraSource) (fs : List Bool),
    extraBit k es fs = (es.zip fs).any fun x => (x.1.cls == .irq && x.1.ackBit == some k) && x.2
  | [], _ => rfl
  | _ :: _, [] => rfl
  | _ :: es, _ :: fs => by simp [extraBit, extraBit_eq_any k es fs]

theorem extraPending_iff {cls : IntClass} {es : List ExtraSource} {fs : List Bool} :
    extraPending cls es fs = true ↔
      ∃ (j : Nat) (e : ExtraSource), es[j]? = some e ∧ e.cls = cls ∧ fs[j]? = some true := by
  rw [extraPending_eq_any, any_zip_iff (P := fun e => e.cls == cls)]
  simp

theorem extraBit_iff {k : Nat} {es : List ExtraSource} {fs : List Bool} :
    extraBit k es fs = true ↔
      ∃ (j : Nat) (e : ExtraSource), es[j]? = some e ∧ e.cls = .irq ∧ e.ackBit = some k ∧ fs[j]? = some true := by
  rw [extraBit_eq_any, any_zip_iff (P := fun e => e.cls == .irq && e.ackBit == some k)]
  simp [and_assoc]

theorem pendingIrq_iff {s : State} : pendingIrq s = true ↔ keyboardLine s = true ∨ s.ic.crtc = true ∨
    ∃ (j : Nat) (e : ExtraSource), s.config.extraSources[j]? = some e ∧ e.cls = .irq ∧ s.ic.extra[j]? = some true := by
  simp only [pendingIrq, Bool.or_eq_true, extraPending_iff, or_assoc]

/-- A byte given by its binary digits, over the 256 cases. -/
theorem getLsbD_ofNat_digits (b0 b1 b2 b3 b4 b5 b6 b7 : Bool) (k : Fin 8) :
    (BitVec.ofNat 8 (b0.toNat + b1.toNat * 2 + b2.toNat * 4 + b3.toNat * 8 + b4.toNat * 16 + b5.toNat * 32 +
      b6.toNat * 64 + b7.toNat * 128)).getLsbD k = [b0, b1, b2, b3, b4, b5, b6, b7][k] := by
  revert b0 b1 b2 b3 b4 b5 b6 b7 k
  decide

/-- The bits of the status byte (R287). -/
theorem icAckRead_getLsbD (s : State) (k : Fin 8) :
    let bit := fun k => extraBit k s.config.extraSources s.ic.extra
    (icAckRead s).getLsbD k = [keyboardLine s, s.ic.crtc, bit 2, bit 3, bit 4, bit 5, bit 6, pendingIrq s][k] :=
  getLsbD_ofNat_digits _ _ _ _ _ _ _ _ k

theorem icAckRead_getLsbD_extra (s : State) {k : Nat} (hlo : 2 ≤ k) (hhi : k ≤ 6) :
    (icAckRead s).getLsbD k = extraBit k s.config.extraSources s.ic.extra := by
  have hbits := icAckRead_getLsbD s
  obtain rfl | rfl | rfl | rfl | rfl : k = 2 ∨ k = 3 ∨ k = 4 ∨ k = 5 ∨ k = 6 := by omega
  exacts [hbits 2, hbits 3, hbits 4, hbits 5, hbits 6]

/-- Settles O16, from the bits of the status byte. -/
theorem statusReadShowsThePendingSources : Obligations.StatusReadShowsThePendingSources := by
  intro s a h
  have hread : memRead s a = icAckRead s := by simp [memRead, h]
  have hbits := icAckRead_getLsbD s
  rw [hread]
  refine ⟨hbits 0, hbits 1, fun k hlo hhi => ?_, hbits 7, pendingIrq_iff⟩
  rw [icAckRead_getLsbD_extra s hlo hhi, extraBit_iff]

/-! ### The interrupt entries -/

theorem nmiAcknowledge_getElem? {t : State} {k : Nat} {e : ExtraSource} {f : Bool}
    (he : t.config.extraSources[k]? = some e) (hf : t.ic.extra[k]? = some f) :
    (nmiAcknowledge t).ic.extra[k]? = some (if e.cls = .nmi ∧ e.trigger = .edge then false else f) := by
  have hextra : (nmiAcknowledge t).ic.extra[k]? = some (f && !(e.cls == .nmi && e.trigger == .edge)) :=
    clearExtra_getElem? he hf
  have hwhich : (e.cls == .nmi && e.trigger == .edge) = decide (e.cls = .nmi ∧ e.trigger = .edge) :=
    (Bool.decide_and _ _).symm
  rw [hextra, hwhich]
  split <;> simp [*]

/-- Settles O27: both entries are the shared sequence with their own vector, and the NMI's is followed by its
acknowledgement. -/
theorem interruptEntryPushesPcAndStatus : Obligations.InterruptEntryPushesPcAndStatus := by
  refine fun s => ⟨takeException_eq s.pc false Config.vecIrq s,
    congrArg nmiAcknowledge (takeException_eq s.pc false Config.vecNmi s),
    fun _ => ⟨rfl, fun _ _ _ => nmiAcknowledge_getElem?⟩⟩

/-- No source of a class is pending once all of that class have been cleared. -/
theorem extraPending_clearExtra {cls : IntClass} {which : ExtraSource → Bool} : ∀ {es : List ExtraSource}
    (fs : List Bool), (∀ e ∈ es, e.cls = cls → which e = true) → extraPending cls es (clearExtra which es fs) = false
  | [], _, _ => rfl
  | _ :: _, [], _ => rfl
  | e :: es, f :: fs, h => by
    have htail : extraPending cls es (clearExtra which es fs) = false :=
      extraPending_clearExtra fs fun e' he' => h e' (.tail e he')
    have hhead : e.cls = cls → which e = true := h e (.head es)
    simpa [clearExtra, extraPending, htail] using fun hcls _ => hhead hcls

/-- An acknowledgement leaves no NMI pending when every extra source of that class is edge-triggered (R272, R285). -/
theorem pendingNmi_nmiAcknowledge {s : State}
    (h : ∀ e ∈ s.config.extraSources, e.cls = .nmi → e.trigger = .edge) : pendingNmi (nmiAcknowledge s) = false :=
  extraPending_clearExtra s.ic.extra fun e he hcls => by simp [hcls, h e he hcls]

theorem pendingNmi_finishStep (n : Nat) (s : State) : pendingNmi (finishStep n s) = pendingNmi s := by
  simp [pendingNmi]

/-- Settles O28: the step is the NMI's entry, which ends in the acknowledgement. -/
theorem oneNmiEventIsTakenOnce : Obligations.OneNmiEventIsTakenOnce := by
  intro s t hhalted hnmi hstep
  rw [step_of_pendingNmi hhalted hnmi] at hstep
  cases hstep
  refine ⟨by rw [finishStep_ic]; rfl, fun hedge => ?_⟩
  rw [pendingNmi_finishStep]
  exact pendingNmi_nmiAcknowledge (by simpa using hedge)

end Sys2Proof.Machine
end

section
/-! SUPPORT. The CRTC's register file behind its two bus registers (spec/60_exceptions.md R310 to R313). -/

namespace Sys2Proof.Machine

section
variable {s : State} {a : Addr}

theorem memWrite_of_crtcAddr (v : Byte) (h : busTarget s a = .crtcAddr) : memWrite s a v = crtcAddrWrite v s := by
  simp [memWrite, h]

theorem memRead_of_crtcAddr (h : busTarget s a = .crtcAddr) : memRead s a = s.crtc.addr.setWidth 8 := by
  simp [memRead, h]

theorem memWrite_of_crtcData (v : Byte) (h : busTarget s a = .crtcData) : memWrite s a v = crtcDataWrite v s := by
  simp [memWrite, h]

theorem memRead_of_crtcData (h : busTarget s a = .crtcData) : memRead s a = crtcDataRead s := by simp [memRead, h]

end

/-- The address register keeps the low five bits (R310). -/
theorem crtcAddrWrite_eq (v : Byte) (s : State) :
    crtcAddrWrite v s = { s with crtc := { s.crtc with addr := BitVec.ofNat 5 (v.toNat % 32) } } := by
  have hlow : v.setWidth 5 = BitVec.ofNat 5 (v.toNat % 32) := by
    apply BitVec.eq_of_toNat_eq
    simp
  rw [crtcAddrWrite, hlow]

theorem crtcDataWrite_of_lt {s : State} (v : Byte) (h : s.crtc.addr.toNat < 18) :
    crtcDataWrite v s = { s with crtc := { s.crtc with reg := s.crtc.reg.set s.crtc.addr.toNat v } } := dif_pos h

theorem crtcDataWrite_of_absent {s : State} (v : Byte) (h : 18 ≤ s.crtc.addr.toNat) : crtcDataWrite v s = s :=
  dif_neg (by omega)

@[simp] theorem crtcDataWrite_addr (v : Byte) (s : State) : (crtcDataWrite v s).crtc.addr = s.crtc.addr := by
  unfold crtcDataWrite
  split <;> rfl

/-- The write changes the selected register, where it exists, and no other (R311). -/
theorem crtcDataWrite_reg (v : Byte) (s : State) (k : Nat) (hk : k < 18) :
    (crtcDataWrite v s).crtc.reg[k] = if k = s.crtc.addr.toNat then v else s.crtc.reg[k] := by
  by_cases h : s.crtc.addr.toNat < 18
  · simp only [crtcDataWrite_of_lt v h, Vector.getElem_set, eq_comm]
  · rw [if_neg (by omega)]
    simp only [crtcDataWrite_of_absent v (Nat.le_of_not_lt h)]

theorem crtcDataRead_of_lt {s : State} (h : s.crtc.addr.toNat < 18) :
    crtcDataRead s = s.crtc.reg[s.crtc.addr.toNat] := dif_pos h

theorem crtcDataRead_of_absent {s : State} (h : 18 ≤ s.crtc.addr.toNat) : crtcDataRead s = 0x00 := dif_neg (by omega)

/-- Settles O17: the bus hands each access to the register file. -/
theorem crtcRegisterFileAccess : Obligations.CrtcRegisterFileAccess := by
  refine fun s a v => ⟨fun h => ?addr, fun h => ?data⟩
  case addr =>
    rw [memWrite_of_crtcAddr v h, memRead_of_crtcAddr h]
    exact ⟨crtcAddrWrite_eq v s, BitVec.toNat_setWidth_of_le (by decide)⟩
  case data =>
    intro t
    have ht : t = crtcDataWrite v s := memWrite_of_crtcData v h
    rw [ht, memRead_of_crtcData h]
    exact ⟨crtcDataWrite_addr v s, crtcDataWrite_eq v s, crtcDataWrite_reg v s, crtcDataRead_of_lt,
      fun habsent => ⟨crtcDataWrite_of_absent v habsent, crtcDataRead_of_absent habsent⟩⟩

end Sys2Proof.Machine
end

section
/-! SUPPORT. The fault of an undefined opcode and the halted machine (spec/60_exceptions.md R261 to R263, R275): the one
way a step stops, and that only reset gets out of it. -/

namespace Sys2Proof.Machine

theorem executeOne_of_no_row {s : State} (h : findRow (memRead s s.pc) = none) : executeOne s = raiseIllegal s := by
  simp [executeOne, fetch_of_no_row h]

/-- Settles O23: the fetch fails on the bytes without a row, and those are the listed ones. -/
theorem illegalOpcodeFaultsAndLatches : Obligations.IllegalOpcodeFaultsAndLatches := by
  refine ⟨fun s hhalted hnmi hirq hop => ?faults, fun s f h => ?only⟩
  case faults =>
    have hrow : findRow (memRead (deliverInputs s) (deliverInputs s).pc) = none := by
      rw [deliverInputs_pc, findRow_eq_none_iff]
      exact hop
    rw [step_no_interrupt hhalted hnmi hirq, executeOne_of_no_row hrow, raiseIllegal]
    simp only [deliverInputs_pc]
  case only =>
    obtain ⟨hhalted, -, hrow, hf⟩ := step_fault h
    exact ⟨hhalted, (findRow_eq_none_iff _).1 hrow, hf⟩

theorem step_of_halted {s : State} {info : FaultInfo} (h : s.halted = some info) : step s = .refused (.halted info) := by
  simp [step, h]

/-- Settles O24: the fault leaves the boundary's state with the latch set, and the latch alone decides the refusal. -/
theorem haltedMachineRefusesUntilReset : Obligations.HaltedMachineRefusesUntilReset := by
  refine ⟨fun _ _ => step_of_halted, fun s left a op h => ?_⟩
  obtain ⟨-, -, -, hf⟩ := step_fault h
  injection hf with ha hop hleft
  subst ha hop hleft
  exact ⟨fun _ => step_of_halted rfl, fun _ => rfl, by simp, by simp, by simp, by simp⟩

/-- A step at whose boundary an interrupt is taken completes (R275). -/
theorem step_next_of_interrupt {s : State} (hhalted : s.halted = none)
    (h : pendingNmi (deliverInputs s) = true ∨ pendingIrq (deliverInputs s) = true ∧ s.p.i = false) :
    ∃ t, step s = .next t := by
  cases hnmi : pendingNmi (deliverInputs s) with
  | true => exact ⟨_, step_of_pendingNmi hhalted hnmi⟩
  | false =>
    obtain ⟨hirq, hi⟩ := h.resolve_left (by simp [hnmi])
    exact ⟨_, step_of_pendingIrq hhalted hnmi hirq hi⟩

/-- Settles O25, by the outcomes of a step: its fault is that of a byte without a row, and only a halted machine
refuses. -/
theorem onlyIllegalOpcodesStopTheMachine : Obligations.OnlyIllegalOpcodesStopTheMachine := by
  refine ⟨exec_next, fun _ => step_next_of_interrupt, fun s hhalted => ?_⟩
  cases hstep : step s with
  | next t => exact .inl ⟨t, rfl⟩
  | fault f =>
    obtain ⟨-, -, hrow, rfl⟩ := step_fault hstep
    exact .inr ⟨(findRow_eq_none_iff _).1 hrow, _, rfl⟩
  | refused r =>
    obtain ⟨info, hinfo, -⟩ := step_refused hstep
    simp [hhalted] at hinfo

end Sys2Proof.Machine
end

section
/-! SUPPORT. Cycle counts (spec/70_reset_and_hazards.md R360): the entries of the tables by the timing of their rows,
when an indexed address crosses a page, and the bounds of every count. -/

namespace Sys2Proof.Machine

theorem cyclesOf_eq {i : Instr} {s : State} {r : OpRow} {n : Nat} (hrow : findRow i.opcode = some r)
    (hn : rowCycles s r i.operands = n) : cyclesOf i s = n := by
  simp [cyclesOf, hrow, hn]

/-! ### The rows of fixed count -/

/-- The opcode has a row, of fixed count `n`. -/
def hasFixedCount (n : Nat) (op : Byte) : Bool := (findRow op).any fun r => r.timing == .fixed && r.cycles == n

theorem cyclesOf_of_hasFixedCount {i : Instr} {n : Nat} (s : State) (h : hasFixedCount n i.opcode = true) :
    cyclesOf i s = n := by
  obtain ⟨r, hrow, htiming, hcycles⟩ : ∃ r, findRow i.opcode = some r ∧ r.timing = .fixed ∧ r.cycles = n := by
    simpa [hasFixedCount, Option.any_eq_true] using h
  exact cyclesOf_eq hrow (by simp [rowCycles, htiming, hcycles])

/-- The opcodes of the entries of a cycle table. -/
def tableOpcodes (table : List (Nat × List Instr)) : List (Nat × List Byte) :=
  table.map fun row => (row.1, row.2.map Instr.opcode)

/-- The opcodes of the table do not depend on the operands. -/
theorem tableOpcodes_fixedCycleTable (d8 : Byte) (a16 : Addr) :
    tableOpcodes (fixedCycleTable d8 a16) = tableOpcodes (fixedCycleTable 0 0) := rfl

theorem hasFixedCount_of_mem_tableOpcodes :
    ∀ e ∈ tableOpcodes (fixedCycleTable 0 0), ∀ op ∈ e.2, hasFixedCount e.1 op = true := by
  simp only [← List.all_eq_true]
  decide

theorem cyclesOf_of_mem_fixedCycleTable (s : State) {d8 : Byte} {a16 : Addr} {row : Nat × List Instr}
    (hrow : row ∈ fixedCycleTable d8 a16) {i : Instr} (hi : i ∈ row.2) : cyclesOf i s = row.1 := by
  have hentry : (row.1, row.2.map Instr.opcode) ∈ tableOpcodes (fixedCycleTable 0 0) := by
    rw [← tableOpcodes_fixedCycleTable d8 a16]
    exact List.mem_map_of_mem hrow
  exact cyclesOf_of_hasFixedCount s (hasFixedCount_of_mem_tableOpcodes _ hentry _ (List.mem_map_of_mem hi))

/-! ### The branches -/

/-- A branch counts by its flag test, and when taken by the page of its target (R214). -/
theorem cyclesOf_of_mem_branchTable {s : State} {d8 : Byte} : ∀ f ∈ branchTable s.p d8, cyclesOf f.1 s =
    if f.2 then (if hiByte s.pc = hiByte (s.pc + sext d8) then 3 else 4) else 2 := by
  simp only [branchTable, beq_true, beq_false, List.forall_mem_cons, List.not_mem_nil, false_implies, implies_true,
    and_true]
  exact ⟨cyclesOf_eq findRow_90 rfl, cyclesOf_eq findRow_B0 rfl, cyclesOf_eq findRow_F0 rfl,
    cyclesOf_eq findRow_D0 rfl, cyclesOf_eq findRow_30 rfl, cyclesOf_eq findRow_10 rfl, cyclesOf_eq findRow_50 rfl,
    cyclesOf_eq findRow_70 rfl⟩

/-! ### The crossing of a page -/

/-- The indexed address lies in another page exactly when the sum of the low bytes carries, also where the address wraps
(R117). -/
theorem crossesPage_iff (base : Addr) (index : Byte) :
    crossesPage base index = true ↔ 256 ≤ (loByte base).toNat + index.toNat := by
  rw [crossesPage, bne_iff_ne, Ne, ← BitVec.toNat_inj, hiByte_toNat, hiByte_toNat, loByte_toNat, BitVec.toNat_add,
    zext_toNat]
  have := base.isLt
  have := index.isLt
  omega

theorem operandCrosses_absx (s : State) (a16 : Addr) :
    operandCrosses s .absx [loByte a16, hiByte a16] = crossesPage a16 s.x := by
  rw [operandCrosses, wordOf_hi_lo]

theorem operandCrosses_absy (s : State) (a16 : Addr) :
    operandCrosses s .absy [loByte a16, hiByte a16] = crossesPage a16 s.y := by
  rw [operandCrosses, wordOf_hi_lo]

theorem operandCrosses_indy (s : State) (d8 : Byte) :
    operandCrosses s .indy [d8] = crossesPage (memRead16ZP s d8) s.y := rfl

theorem cyclesOf_of_pageCross {i : Instr} {s : State} {r : OpRow} {n : Nat} {base : Addr} {index : Byte}
    (hrow : findRow i.opcode = some r) (htiming : r.timing = .pageCross) (hcycles : r.cycles = n)
    (hcross : operandCrosses s r.mode i.operands = crossesPage base index) :
    cyclesOf i s = n + if 256 ≤ (loByte base).toNat + index.toNat then 1 else 0 := by
  refine cyclesOf_eq hrow ?_
  simp only [rowCycles, htiming, hcycles, hcross, crossesPage_iff]
  split <;> rfl

/-- The entries are those of LDA, LDX, LDY, ADC, SBC, AND, ORA, EOR and CMP; each counts by the crossing of its mode. -/
theorem cyclesOf_of_mem_indexedCycleTable {s : State} {d8 : Byte} {a16 : Addr} :
    ∀ row ∈ indexedCycleTable s d8 a16, cyclesOf row.2.1 s =
      row.1 + if 256 ≤ (loByte row.2.2.1).toNat + row.2.2.2.toNat then 1 else 0 := by
  have habsx := operandCrosses_absx s a16
  have habsy := operandCrosses_absy s a16
  have hindy := operandCrosses_indy s d8
  simp only [indexedCycleTable, List.forall_mem_cons, List.not_mem_nil, false_implies, implies_true, and_true]
  exact ⟨
    cyclesOf_of_pageCross findRow_BD rfl rfl habsx, cyclesOf_of_pageCross findRow_B9 rfl rfl habsy,
    cyclesOf_of_pageCross findRow_B1 rfl rfl hindy,
    cyclesOf_of_pageCross findRow_BE rfl rfl habsy, cyclesOf_of_pageCross findRow_BC rfl rfl habsx,
    cyclesOf_of_pageCross findRow_7D rfl rfl habsx, cyclesOf_of_pageCross findRow_79 rfl rfl habsy,
    cyclesOf_of_pageCross findRow_71 rfl rfl hindy,
    cyclesOf_of_pageCross findRow_FD rfl rfl habsx, cyclesOf_of_pageCross findRow_F9 rfl rfl habsy,
    cyclesOf_of_pageCross findRow_F1 rfl rfl hindy,
    cyclesOf_of_pageCross findRow_3D rfl rfl habsx, cyclesOf_of_pageCross findRow_39 rfl rfl habsy,
    cyclesOf_of_pageCross findRow_31 rfl rfl hindy,
    cyclesOf_of_pageCross findRow_1D rfl rfl habsx, cyclesOf_of_pageCross findRow_19 rfl rfl habsy,
    cyclesOf_of_pageCross findRow_11 rfl rfl hindy,
    cyclesOf_of_pageCross findRow_5D rfl rfl habsx, cyclesOf_of_pageCross findRow_59 rfl rfl habsy,
    cyclesOf_of_pageCross findRow_51 rfl rfl hindy,
    cyclesOf_of_pageCross findRow_DD rfl rfl habsx, cyclesOf_of_pageCross findRow_D9 rfl rfl habsy,
    cyclesOf_of_pageCross findRow_D1 rfl rfl hindy⟩

/-! ### The bounds -/

/-- The most cycles a timing adds to the base count of its row. -/
def mostExtraCycles : Timing → Nat
  | .fixed => 0
  | .pageCross => 1
  | .branch _ => 2

theorem rowCycles_le (s : State) (r : OpRow) (operands : List Byte) :
    rowCycles s r operands ≤ r.cycles + mostExtraCycles r.timing := by
  cases h : r.timing with
  | fixed => simp [rowCycles, h]
  | pageCross =>
    simp only [rowCycles, h, mostExtraCycles]
    split <;> omega
  | branch cond =>
    simp only [rowCycles, h, branchCycles, mostExtraCycles]
    repeat' split
    all_goals omega

theorem cycles_add_mostExtraCycles_le_of_mem_rowsOf (k : Nat) :
    ∀ r ∈ rowsOf k, r.cycles + mostExtraCycles r.timing ≤ 7 := by
  unfold rowsOf
  split <;> simp [mostExtraCycles]

/-- No instruction takes more than seven cycles: its row allows no more (R360). -/
theorem cyclesOf_le_seven (i : Instr) (s : State) : cyclesOf i s ≤ 7 := by
  obtain ⟨r, hfound, -⟩ := exists_row i
  have hrow := cycles_add_mostExtraCycles_le_of_mem_rowsOf _ r (List.mem_of_find?_eq_some hfound)
  simpa [cyclesOf, hfound] using (rowCycles_le s r i.operands).trans hrow

theorem exec_cycles {i : Instr} {s t : State} (h : exec i s = .next t) : t.cycles = s.cycles := by
  obtain ⟨-, -, -, -, hcycles, -⟩ := instructionsLeaveTheOutsideAlone i s t h
  exact hcycles

@[simp] theorem interruptEntry_cycles (kind : IntClass) (s : State) : (interruptEntry kind s).cycles = s.cycles := by
  cases kind <;> simp [interruptEntry]

/-- A step counts the seven cycles of an interrupt entry or those of its instruction. -/
theorem step_cycles {s t : State} (h : step s = .next t) : ∃ n, t.cycles = s.cycles + n ∧ 2 ≤ n ∧ n ≤ 7 := by
  obtain ⟨-, ⟨kind, rfl, -⟩ | ⟨i, u, -, -, hexec, rfl⟩⟩ := step_cases h
  · exact ⟨Config.intEntryCycles, by simp, by decide, by decide⟩
  · exact ⟨_, by rw [finishStep_cycles, exec_cycles hexec, advance_cycles, deliverInputs_cycles],
      two_le_cyclesOf _ _, cyclesOf_le_seven _ _⟩

/-- Settles O60: the entries of the three tables, the bounds of the rows, and what a step counts. -/
theorem cycleCountsFollowTheTable : Obligations.CycleCountsFollowTheTable := by
  refine ⟨fun s d8 a16 => ⟨fun row hrow i hi => cyclesOf_of_mem_fixedCycleTable s hrow hi,
    cyclesOf_of_mem_indexedCycleTable, cyclesOf_of_mem_branchTable⟩,
    fun i s => ⟨two_le_cyclesOf i s, cyclesOf_le_seven i s⟩, fun s t h => ?_⟩
  obtain ⟨n, hcycles, hlo, hhi⟩ := step_cycles h
  omega

end Sys2Proof.Machine
end

section
/-! SUPPORT. The reset (spec/70_reset_and_hazards.md R340, R341; spec/10_state.md R40): the vector it reads PC from, and
the flags of extra sources it clears. -/

namespace Sys2Proof.Machine

/-- No read looks at PC, so the vector reads in the state after the reset as it did just before PC was set (R341). -/
theorem hostReset_pc (w : ResetDraws) (s : State) :
    (hostReset w s).pc = memRead16 (hostReset w s) Config.vecReset := rfl

theorem hostReset_extra (w : ResetDraws) (s : State) : (hostReset w s).ic.extra =
    clearExtra (fun e => e.trigger == Trigger.edge) s.config.extraSources s.ic.extra := rfl

theorem clearExtra_getElem?_of_cleared {which : ExtraSource → Bool} {es : List ExtraSource} {fs : List Bool} {k : Nat}
    {e : ExtraSource} {f : Bool} (he : es[k]? = some e) (hwhich : which e = true)
    (hf : (clearExtra which es fs)[k]? = some f) : f = false := by
  obtain ⟨hk, -⟩ := List.getElem?_eq_some_iff.1 hf
  rw [clearExtra_length] at hk
  simpa [hf, hwhich] using clearExtra_getElem? (which := which) he (List.getElem?_eq_getElem hk)

/-- Settles O2: the fields are those `hostReset` assigns, the vector is read in the state it answers, and an
edge-triggered source is one the reset clears. -/
theorem hostResetSetsEveryResetValue : Obligations.HostResetSetsEveryResetValue := by
  refine fun w s => ⟨rfl, rfl, rfl, rfl, rfl, rfl, rfl, rfl, rfl, fun k e he hedge f hf => ?extra,
    rfl, rfl, rfl, rfl, rfl, rfl, rfl, rfl, fun k hk => ?crtc, rfl, hostReset_pc w s, rfl, rfl, rfl⟩
  case extra =>
    rw [hostReset_extra] at hf
    exact clearExtra_getElem?_of_cleared he (by simp [hedge]) hf
  case crtc => exact Vector.getElem_replicate hk

end Sys2Proof.Machine
end
